-- ==== Sys2Proof/Word.lean ====
section
/-!
DEFINITION. The plainest types of the HT240 model: bytes, texts and service dates.
-/

namespace Sys2Proof

/-- A byte of a port frame, a line frame or a text (R202). -/
abbrev Byte := BitVec 8

/-- A service date, 0 to 65535, which counts on modulo 65536 (R20, R21). -/
abbrev Date := BitVec 16

/-- A text: its character codes, one byte each (R202). -/
abbrev Text := List Byte

end Sys2Proof
end

