-- ==== Sys2Proof/Syntax.lean ====
section
/-!
DEFINITION. The commands of the HT240: one constructor for each row of spec/opcode_table.json.

A port command row stands for one command period of that command on the port named: `ps` are the parameter bytes between
CMD and CHECK, and the row fixes CMD (and the item byte of STAGE_BEGIN and STAGE_CLOSE), LEN and CHECK (log 3).
A line frame row stands for one arrival of a frame of that kind: its train and point fields and its data bytes (R32, R33).
-/

namespace Sys2Proof

/-- The three ports of the part (R188). -/
inductive PortId where
  | sale
  | board
  | office
deriving DecidableEq, Repr

/-- The two directions of travel, of the request buttons and of the lamps (00_scope.md, "Directions"). -/
inductive Direction where
  | up
  | down
deriving DecidableEq, Repr

/-- The commands of spec/opcode_table.json. -/
inductive Instr where
  | quote (p : PortId) (ps : List Byte)
  | issue (p : PortId) (ps : List Byte)
  | void (p : PortId) (ps : List Byte)
  | cancelQuote (p : PortId) (ps : List Byte)
  | readPage (p : PortId) (ps : List Byte)
  | takeCue (p : PortId) (ps : List Byte)
  | reportScreen (p : PortId) (ps : List Byte)
  | readDepartures (p : PortId) (ps : List Byte)
  | readNotify (p : PortId) (ps : List Byte)
  | setNotifyMask (p : PortId) (ps : List Byte)
  /-- The parameter bytes after the item byte TIMETABLE. -/
  | stageBeginTimetable (p : PortId) (ps : List Byte)
  /-- The parameter bytes after the item byte FARES. -/
  | stageBeginFares (p : PortId) (ps : List Byte)
  | stagePutDest (p : PortId) (ps : List Byte)
  | stagePutCall (p : PortId) (ps : List Byte)
  | stagePutFare (p : PortId) (ps : List Byte)
  | stagePutRules (p : PortId) (ps : List Byte)
  /-- The parameter bytes after the item byte TIMETABLE. -/
  | stageCloseTimetable (p : PortId) (ps : List Byte)
  /-- The parameter bytes after the item byte FARES. -/
  | stageCloseFares (p : PortId) (ps : List Byte)
  | changeoverSet (p : PortId) (ps : List Byte)
  | applyNow (p : PortId) (ps : List Byte)
  /-- One part of PUT_NOTICE: its part byte and the bytes after it (R190). -/
  | putNotice (p : PortId) (ps : List Byte)
  | removeNotice (p : PortId) (ps : List Byte)
  | showNotice (p : PortId) (ps : List Byte)
  | hideNotice (p : PortId) (ps : List Byte)
  | setFilter (p : PortId) (ps : List Byte)
  | setHalt (p : PortId) (ps : List Byte)
  | setScreen (p : PortId) (ps : List Byte)
  | setGroup (p : PortId) (ps : List Byte)
  | setTime (p : PortId) (ps : List Byte)
  | setSerialBase (p : PortId) (ps : List Byte)
  | setPartition (p : PortId) (ps : List Byte)
  | readJournal (p : PortId) (ps : List Byte)
  | release (p : PortId) (ps : List Byte)
  | openSales (p : PortId) (ps : List Byte)
  | closeSales (p : PortId) (ps : List Byte)
  | restartLine (p : PortId) (ps : List Byte)
  | restart (p : PortId) (ps : List Byte)
  | readStatus (p : PortId) (ps : List Byte)
  /-- A command period given by all the bytes clocked in, LEN to CHECK (R189). -/
  | unknownCommand (p : PortId) (bytes : List Byte)
  /-- A read period of `n` clocked bytes (R191). -/
  | readPeriod (p : PortId) (n : Nat)
  | responsePlaced (p : PortId)
  | powerOn
  | resetInput
  /-- The end of a start; `valid` says whether the backup check word is found valid (R195, log 11). -/
  | startEnd (valid : Bool)
  | runFrame (train : BitVec 14) (point : BitVec 11) (data : List Byte)
  /-- A SERVICE frame of action CANCEL; `rest` are the data bytes after the action byte. -/
  | cancel (train : BitVec 14) (point : BitVec 11) (rest : List Byte)
  /-- A SERVICE frame of action REINSTATE; `rest` are the data bytes after the action byte. -/
  | reinstate (train : BitVec 14) (point : BitVec 11) (rest : List Byte)
  /-- A SERVICE frame of action PLATFORM; `rest` are the data bytes after the action byte, the new platform first. -/
  | platform (train : BitVec 14) (point : BitVec 11) (rest : List Byte)
  /-- A SERVICE frame whose data are an unknown action code, or too short (R65). -/
  | serviceFrameTouchOnly (train : BitVec 14) (point : BitVec 11) (data : List Byte)
  | timemark (train : BitVec 14) (point : BitVec 11) (data : List Byte)
  | stopack (train : BitVec 14) (point : BitVec 11) (data : List Byte)
  | linenotice (train : BitVec 14) (point : BitVec 11) (data : List Byte)
  | lineFrameDiscarded (kind : BitVec 4) (train : BitVec 14) (point : BitVec 11) (data : List Byte)
  | attemptStart
  | attemptAcknowledged
  | attemptNotAcknowledged
  | secondAdvance
  | minuteTick
  | sweepTick
  | dayBoundary
  | syncAgeExpiry
  | candidateWindowClose
  | delayExpiry
  | quoteExpiry
  | noticeExpiry
  | buttonPress (dir : Direction)
  | buttonRelease (dir : Direction)
  | powerLoss
  | lampFlash (dir : Direction)
deriving DecidableEq, Repr

end Sys2Proof
end

