-- ==== Sys2Proof/Decode.lean ====
section
/-!
DEFINITION. The command that a word spells by the table's bits.
spec/opcode_table.json gives no row any bits ("fields": [] throughout), so no word spells a command (log 21).
-/

namespace Sys2Proof

/-- The command spelt by a table word: none, since the table gives no row any bits. -/
def decodeTableWord (_nbits _w : Nat) : Option Instr := none

end Sys2Proof
end

