-- ==== Sys2Proof/Config.lean ====
section
/-!
DEFINITION. The free values: what the spec leaves unstated while the part goes on.
Each is a constant without a body, so no proof can rest on what it is.
-/

namespace Sys2Proof.Config

/-- The departure time that R89 and R90 read for an entry of the given train that holds no forecast while the clock is
set; the spec states none (log 12). -/
opaque openDeparture (train : Nat) : Nat

/-- The three bytes that stand for a next serial of 16 777 216 in READ_STATUS section 4; R142 gives the value and R202
three bytes, which cannot hold it (log 13). -/
opaque spentSerial : BitVec 24

/-- The code sent for the dash in the fixed texts of SN1 and SN2, which lies outside the codes 32 to 126 (log 14). -/
opaque dashCode : Byte

/-- Whether a SERVICE frame with fewer data bytes than it needs is handed on, to enter and touch its train as R65 says, and not
discarded as R39 says; nothing in the spec sets one of the two rules aside (log 5). -/
opaque shortServiceTaken : Bool

end Sys2Proof.Config
end

