-- ==== Sys2Proof/Machine/State.lean ====
section
/-!
DEFINITION. Every piece of state the spec gives the HT240, as plain data, and its value right after a cold start.
`Device` is the part; `State` adds the queue of waiting commands. INVENTORY.md lists each field with its rule.
-/

namespace Sys2Proof.Machine

/-! ## The part as a whole -/

/-- The cause of a start (R195). -/
inductive StartCause where
  | power
  | resetInput
  | restart
deriving DecidableEq, Repr

/-- Whether the part runs, is in a start, or has no supply (R195, R149). -/
inductive Phase where
  | running
  | starting (cause : StartCause)
  | off
deriving DecidableEq, Repr

/-! ## Clock (R20 to R31) -/

inductive ClockState where
  | unset
  | synced
  | free
deriving DecidableEq, Repr

/-- A time mark held for confirmation (R26). -/
structure Candidate where
  date : Date
  second : Nat
  age : Nat
deriving DecidableEq, Repr

structure Clock where
  date : Date
  second : Nat
  state : ClockState
  /-- Counted only while SYNCED (R23); 0 otherwise. -/
  syncAge : Nat
  candidate : Option Candidate
  /-- Minute ticks raised (R22, R29) and not yet taken by MINUTE_TICK (log 8). -/
  dueMinute : Nat
  dueSweep : Nat
  dueDay : Nat
deriving DecidableEq, Repr

/-! ## Timetable Store (R1 to R18) -/

inductive CallKind where
  | stop
  | request
  | pass
deriving DecidableEq, Repr

structure RoutePoint where
  point : Nat
  passing : Nat
  margin : Nat
deriving DecidableEq, Repr

/-- A call record (section 1.1). -/
structure CallRec where
  train : Nat
  direction : Direction
  kind : CallKind
  platform : Nat
  /-- Bit 0 is Monday (R202). -/
  days : BitVec 7
  schedArr : Nat
  schedDep : Nat
  dest : Nat
  route : List RoutePoint
  cutoff : Option Nat
  approach : Option Nat
deriving DecidableEq, Repr

inductive BankState where
  | empty
  | loading
  | ready
  | broken
deriving DecidableEq, Repr

/-- A timetable bank; the header's counts are the lengths of the two lists (R1). -/
structure TimetableBank where
  id : Option Nat
  names : List Text
  calls : List CallRec
  state : BankState
deriving DecidableEq, Repr

structure TimetableStore where
  active : TimetableBank
  staged : TimetableBank
deriving DecidableEq, Repr

/-! ## Line Interface (R32 to R50) -/

inductive FilterAction where
  | accept
  | reject
deriving DecidableEq, Repr

structure Filter where
  enabled : Bool
  code : BitVec 29
  mask : BitVec 29
  action : FilterAction
deriving DecidableEq, Repr

inductive LineState where
  | up
  | down
deriving DecidableEq, Repr

inductive SlotId where
  | s0
  | s1
deriving DecidableEq, Repr

/-- What a QUEUED transmit slot holds (R41): the train, the frame fixed at queuing, and the frame's progress. -/
structure TxFrame where
  train : Nat
  point : Nat
  waiting : Nat
  failed : Nat
  begun : Bool
  /-- Set when the frame was queued while the other slot was already QUEUED ("queued at", R41). -/
  later : Bool
deriving DecidableEq, Repr

structure Line where
  filters : List Filter
  defaultAction : FilterAction
  lastHit : Option Nat
  slot0 : Option TxFrame
  slot1 : Option TxFrame
  /-- The slot whose attempt is under way; none while the transmitter is free (R43, R50). -/
  attempt : Option SlotId
  lastEnd : Option SlotId
  failures : Nat
  state : LineState
deriving DecidableEq, Repr

/-- A frame on the line: its identifier fields and its data (R33). -/
structure LineFrame where
  kind : BitVec 4
  train : BitVec 14
  point : BitVec 11
  data : List Byte
deriving DecidableEq, Repr

/-! ## Running Table, forecasts and stop requests (R51 to R110) -/

inductive RunState where
  | expected
  | running
  | approaching
  | atHalt
  | departed
  | passed
  | cancelled
deriving DecidableEq, Repr

inductive RunEvent where
  | passed
  | arrived
  | departed
deriving DecidableEq, Repr

inductive StopState where
  | none
  | pending
  | sent
  | confirmed
  | unconfirmed
deriving DecidableEq, Repr

/-- An entry's own copy of its call, with the destination name text (R15, R51). -/
structure HeldCall where
  call : CallRec
  name : Text
deriving DecidableEq, Repr

/-- The forecast fields, present together or absent together (R74). -/
structure Forecast where
  delay : Int
  arrival : Nat
  departure : Nat
deriving DecidableEq, Repr

/-- A running entry (R51, R74, R92). -/
structure Entry where
  train : Nat
  date : Date
  /-- Present exactly for LISTED entries (R51); `Entry.origin` reads the origin from it. -/
  held : Option HeldCall
  state : RunState
  beforeCancel : Option RunState
  lastIndex : Option Nat
  lastEvent : Option RunEvent
  lastTime : Option Nat
  haltArrival : Option Nat
  delay : Option Int
  forecast : Option Forecast
  firstOverdue : Option Nat
  overdue : Bool
  overdueLong : Bool
  delayCued : Bool
  stale : Bool
  touched : Bool
  idleSweeps : Nat
  stop : StopState
  waiting : Nat
  saleWatch : Bool
deriving DecidableEq, Repr

structure RunningTable where
  /-- Ascending train number, never two of one train (R51, log 30). -/
  entries : List Entry
  full : Bool
deriving DecidableEq, Repr

inductive ButtonState where
  | released
  | pressed
deriving DecidableEq, Repr

inductive LampMode where
  | off
  | steady
  | flashing
deriving DecidableEq, Repr

/-- A request button with the train it last chose and its lamp (R95, R97, R98). -/
structure Button where
  state : ButtonState
  chosen : Option Nat
  lamp : LampMode
  lit : Bool
deriving DecidableEq, Repr

structure StopUnit where
  up : Button
  down : Button
deriving DecidableEq, Repr

/-! ## Fare Unit and Sale Unit (R111 to R136) -/

structure FareDest where
  code : Nat
  name : Text
  base : Nat
  validity : Nat
deriving DecidableEq, Repr

structure PeakWindow where
  days : BitVec 7
  start : Nat
  stop : Nat
deriving DecidableEq, Repr

structure FareRules where
  returnFactor : Nat
  dayFactor : Nat
  childFactor : Nat
  concessionFactor : Nat
  peakFactor : Nat
  groupThreshold : Nat
  groupDiscount : Nat
  capSingle : Nat
  capReturn : Nat
  capDay : Nat
  windows : List PeakWindow
deriving DecidableEq, Repr

/-- A fare bank; the destination count is the length of `dests` and the rules flag is whether `rules` is present (R113). -/
structure FareBank where
  id : Option Nat
  dests : List FareDest
  rules : Option FareRules
  state : BankState
deriving DecidableEq, Repr

structure FareStore where
  active : FareBank
  staged : FareBank
  generation : BitVec 8
deriving DecidableEq, Repr

inductive TicketType where
  | single
  | returnT
  | day
deriving DecidableEq, Repr

inductive TicketClass where
  | adult
  | child
  | concession
deriving DecidableEq, Repr

inductive Band where
  | peak
  | offPeak
deriving DecidableEq, Repr

inductive PayKind where
  | cash
  | card
deriving DecidableEq, Repr

inductive SalesState where
  | closed
  | suspended
  | restricted
  | isOpen
deriving DecidableEq, Repr

/-- An open quote (R124). -/
structure Quote where
  number : Nat
  destCode : Nat
  destName : Text
  type : TicketType
  cls : TicketClass
  count : Nat
  train : Option Nat
  generation : BitVec 8
  band : Band
  price : Nat
  date : Date
  expiry : Nat
  requestStop : Bool
  /-- Set when the quote was opened while the other slot already held one ("opened order"). -/
  later : Bool
deriving DecidableEq, Repr

/-- The last-sale record (R132). -/
structure LastSale where
  serial : Nat
  date : Date
  second : Nat
  price : Nat
  pay : PayKind
  train : Option Nat
  count : Nat
  voided : Bool
deriving DecidableEq, Repr

structure SaleUnit where
  slotA : Option Quote
  slotB : Option Quote
  nextQuote : Nat
  lastSale : Option LastSale
  closedFlag : Bool
  state : SalesState
deriving DecidableEq, Repr

/-! ## Journal (R137 to R150) -/

structure SaleFields where
  destCode : Nat
  type : TicketType
  cls : TicketClass
  count : Nat
  price : Nat
  pay : PayKind
  train : Option Nat
  generation : BitVec 8
deriving DecidableEq, Repr

/-- What a record holds beside its serial, time and chain value, by kind (R140). -/
inductive RecordBody where
  | sale (f : SaleFields)
  | void (voidedSerial : Nat)
deriving DecidableEq, Repr

structure JournalRec where
  serial : Nat
  date : Date
  second : Nat
  body : RecordBody
  chain : BitVec 16
deriving DecidableEq, Repr

structure Journal where
  partition : Nat
  /-- Head first (R139). -/
  records : List JournalRec
  nextSerial : Option Nat
  highest : Option Nat
  anchor : BitVec 16
deriving DecidableEq, Repr

/-! ## Notices, screens and cues (R151 to R174) -/

inductive NoticeKind where
  | office
  | canned
deriving DecidableEq, Repr

inductive NoticeForm where
  | ticker
  | page
deriving DecidableEq, Repr

structure Moment where
  date : Date
  second : Nat
deriving DecidableEq, Repr

/-- A stored notice (R163). -/
structure Notice where
  number : Nat
  kind : NoticeKind
  priority : Nat
  target : BitVec 4
  form : NoticeForm
  announce : Bool
  text : Text
  showFrom : Option Moment
  showUntil : Option Moment
  shown : Bool
  inWindow : Bool
deriving DecidableEq, Repr

structure NoticeStore where
  /-- Ascending notice number. -/
  items : List Notice
  sn1 : Bool
  sn2 : Bool
  sn3 : Bool
deriving DecidableEq, Repr

inductive StatusWord where
  | none
  | onTime
  /-- "Exp hh:mm" with the expected clock minute. -/
  | exp (clockMinute : Nat)
  | delayed
  | cancelled
deriving DecidableEq, Repr

inductive Countdown where
  | none
  | due
  | minutes (n : Nat)
deriving DecidableEq, Repr

inductive StopText where
  | requestStop
  | stopRequested
  | stopping
  | mayNotStop
deriving DecidableEq, Repr

/-- A departure row (R160). -/
structure Row where
  train : Nat
  schedMinute : Nat
  dest : Text
  platform : Nat
  status : StatusWord
  countdown : Countdown
  stopText : Option StopText
deriving DecidableEq, Repr

/-- A notice as a page shows it: a system notice SNk, or a stored notice (R161). -/
inductive TickerEntry where
  | system (k : Nat)
  | stored (number priority : Nat) (text : Text)
deriving DecidableEq, Repr

inductive PageBody where
  | none
  | rows (rs : List Row)
  | noTrains
  | takeover (t : TickerEntry)
deriving DecidableEq, Repr

/-- A composed page (R159). -/
structure Page where
  blank : Bool
  clockMinute : Option Nat
  haltName : Text
  body : PageBody
  ticker : List TickerEntry
deriving DecidableEq, Repr

inductive Health where
  | ok
  | fault
deriving DecidableEq, Repr

structure Screen where
  enabled : Bool
  groups : BitVec 4
  health : Health
  page : Page
  seq : BitVec 16
deriving DecidableEq, Repr

/-- A member of a departure list with its key (R153). -/
structure Member where
  train : Nat
  schedDep : Nat
deriving DecidableEq, Repr

structure Board where
  screens : List Screen
  /-- The platform mask of each group, platform 1 in bit 0. -/
  groups : List (BitVec 4)
  /-- The departure list of each group. -/
  lists : List (List Member)
  finished : List Nat
deriving DecidableEq, Repr

inductive CueKind where
  | approaching
  | passing
  | delayed
  | cancelled
  | platformChange
  | mayNotStop
  | notice
deriving DecidableEq, Repr

structure Cue where
  kind : CueKind
  train : Option Nat
  platform : Option Nat
  notice : Option Nat
  priority : Nat
  second : Nat
deriving DecidableEq, Repr

/-! ## Change-over Unit (R175 to R187) -/

inductive Trigger where
  | dayBoundary
  | lastCallDone
  | applyNow
deriving DecidableEq, Repr

inductive ApplyMode where
  | none
  | replace
  | swap
deriving DecidableEq, Repr

inductive UnitState where
  | disarmed
  | armed
  | timing
deriving DecidableEq, Repr

inductive ItemResult where
  | none
  | applied
  | notApplied (found : BankState)
deriving DecidableEq, Repr

inductive ApplyOutcome where
  | applied (timetable fares : ItemResult)
  | skipped
deriving DecidableEq, Repr

structure LastResult where
  cause : Trigger
  date : Date
  second : Nat
  outcome : ApplyOutcome
  skipAfter : Nat
  unitAfter : UnitState
deriving DecidableEq, Repr

structure DelayTimer where
  cause : Trigger
  elapsed : Nat
deriving DecidableEq, Repr

structure Changeover where
  onDayBoundary : Bool
  onLastCall : Bool
  delay : Nat
  skipSetting : Nat
  ttMode : ApplyMode
  fareMode : ApplyMode
  armed : Bool
  skipCount : Nat
  doneDate : Option Date
  unit : UnitState
  timer : Option DelayTimer
  lastResult : Option LastResult
deriving DecidableEq, Repr

/-! ## Halt settings and ports (R188 to R204) -/

structure HaltSettings where
  ownPoint : Nat
  name : Text
  fareCode : Nat
  dwell : Nat
  early : Nat
  reserve : Nat
  uploadMark : Nat
  enterUnlisted : Bool
deriving DecidableEq, Repr

inductive PortMode where
  | starting
  | idle
  | executing
  | responseReady
deriving DecidableEq, Repr

inductive Status where
  | ok
  | pending
  | frameError
  | unknownCommand
  | notPermitted
  | badParam
  | busy
  | refused
deriving DecidableEq, Repr

/-- A response: the echoed CMD, the status code, and the data in the order of their layout; `segmented` responses are
sent in segments (R192). -/
structure Response where
  cmd : Byte
  status : Status
  data : List Byte
  segmented : Bool
deriving DecidableEq, Repr

/-- The gathered parts of a PUT_NOTICE and the last part index held (R190). -/
structure Assembly where
  gathered : List Byte
  last : Nat
deriving DecidableEq, Repr

structure Port where
  mode : PortMode
  /-- The response of the command being carried out, until RESPONSE_PLACED places it (log 2). -/
  inHand : Option Response
  buffer : Option Response
  /-- The segment that the next read period clocks out (R191). -/
  segment : Nat
  assembly : Option Assembly
  notify : BitVec 8
  mask : BitVec 8
  /-- The bytes the part clocked out in the last period (log 16). -/
  lastOut : List Byte
deriving DecidableEq, Repr

structure Ports where
  sale : Port
  board : Port
  office : Port
deriving DecidableEq, Repr

/-! ## The whole -/

/-- The part. -/
@[ext]
structure Device where
  phase : Phase
  clock : Clock
  tt : TimetableStore
  line : Line
  table : RunningTable
  sru : StopUnit
  fares : FareStore
  sale : SaleUnit
  journal : Journal
  notices : NoticeStore
  board : Board
  cues : List Cue
  co : Changeover
  halt : HaltSettings
  ports : Ports
  /-- The order choices still to be used, read as digits by `Device.shuffle` (log 6). -/
  sched : Nat
deriving DecidableEq, Repr

/-- The part and the queue of commands that wait for it, first in, first out. -/
structure State where
  dev : Device
  pending : List Instr
deriving DecidableEq, Repr

/-- Why the part could stop with a fault: for no reason. Every condition the spec describes is answered by a status, a
discard or an ignored event, so nothing raises a fault (INVENTORY.md, "Faults"). -/
inductive Fault where
deriving DecidableEq, Repr

/-- Why a command could be refused by the model. -/
inductive Refusal where
  /-- A row without a meaning; raised by no arm of `exec`. It is safe: the model would stop where the part goes on. -/
  | notModelled (mnemonic : String)
deriving DecidableEq, Repr

/-! ## Values after a cold start -/

def TimetableBank.cleared : TimetableBank := { id := none, names := [], calls := [], state := .empty }

def FareBank.cleared : FareBank := { id := none, dests := [], rules := none, state := .empty }

def Filter.cold : Filter := { enabled := false, code := 0, mask := 0, action := .reject }

/-- The page of a disabled screen (R159). -/
def Page.blankPage : Page := { blank := true, clockMinute := none, haltName := [], body := .none, ticker := [] }

def Screen.cold : Screen :=
  { enabled := false, groups := 0, health := .ok, page := .blankPage, seq := 1 }

def Button.released : Button := { state := .released, chosen := none, lamp := .off, lit := false }

/-- Cold-start halt settings (R197); the halt name is "Halt". -/
def HaltSettings.cold : HaltSettings :=
  { ownPoint := 1, name := [0x48, 0x61, 0x6C, 0x74], fareCode := 0, dwell := 30, early := 120, reserve := 24,
    uploadMark := 256, enterUnlisted := false }

def Changeover.cold : Changeover :=
  { onDayBoundary := false, onLastCall := false, delay := 0, skipSetting := 0, ttMode := .none, fareMode := .none,
    armed := false, skipCount := 0, doneDate := none, unit := .disarmed, timer := none, lastResult := none }

/-- The code of a start cause in a start response (R195, R202). -/
def StartCause.code : StartCause → Byte
  | .power => 1
  | .resetInput => 2
  | .restart => 3

/-- The start response: CMD echo 0, OK, the start kind (COLD 1, WARM 2) and the cause (R195). -/
def Response.start (warm : Bool) (c : StartCause) : Response :=
  { cmd := 0, status := .ok, data := [if warm then 2 else 1, c.code], segmented := false }

/-- A port when the part runs again: its start response placed and its notify set holding the start flags (R195). -/
def Port.started (warm : Bool) (c : StartCause) (notify mask : BitVec 8) : Port :=
  { mode := .responseReady, inHand := none, buffer := some (.start warm c), segment := 0, assembly := none,
    notify := notify, mask := mask, lastOut := [] }

/-- The part right after a cold start of the given cause has ended: the cold-start value of every block (R17, R20, R35,
R50, R53, R113, R118, R136, R149, R151, R152, R170, R175, R197, R198), with SALES_STATE_CHANGED and PAGE_CHANGED set
(R136, R162). -/
def Device.cold (c : StartCause) : Device :=
  { phase := .running
    clock := { date := 0, second := 0, state := .unset, syncAge := 0, candidate := none,
               dueMinute := 0, dueSweep := 0, dueDay := 0 }
    tt := { active := .cleared, staged := .cleared }
    line := { filters := List.replicate 8 .cold, defaultAction := .reject, lastHit := none, slot0 := none,
              slot1 := none, attempt := none, lastEnd := none, failures := 0, state := .up }
    table := { entries := [], full := false }
    sru := { up := .released, down := .released }
    fares := { active := .cleared, staged := .cleared, generation := 0 }
    sale := { slotA := none, slotB := none, nextQuote := 1, lastSale := none, closedFlag := false, state := .closed }
    journal := { partition := 48, records := [], nextSerial := none, highest := none, anchor := 0 }
    notices := { items := [], sn1 := true, sn2 := false, sn3 := true }
    board := { screens := List.replicate 6 .cold, groups := List.replicate 4 0, lists := List.replicate 4 [],
               finished := [] }
    cues := []
    co := .cold
    halt := .cold
    ports := { sale := .started false c 1 7, board := .started false c 1 3, office := .started false c 0 31 }
    sched := 0 }

/-- The machine right after a cold start by power-on has ended, with no command waiting (log 1). -/
def State.reset : State := { dev := .cold .power, pending := [] }

end Sys2Proof.Machine
end

