-- ==== Sys2Proof/Machine/Flags.lean ====
section
/-!
DEFINITION. Ports as numbered registers of the device, the notify flags (R198, R203) and the READY and NOTIFY lines.
-/

namespace Sys2Proof.Machine

/-! ## Reading and writing a port -/

def Device.port (d : Device) : PortId → Port
  | .sale => d.ports.sale
  | .board => d.ports.board
  | .office => d.ports.office

def Ports.set (ps : Ports) (p : PortId) (x : Port) : Ports :=
  match p with
  | .sale => { ps with sale := x }
  | .board => { ps with board := x }
  | .office => { ps with office := x }

def Device.setPort (d : Device) (p : PortId) (x : Port) : Device := { d with ports := d.ports.set p x }

/-! ## Notify flags -/

/-- The flags of the three notify sets (R198). -/
inductive Flag where
  | salesStateChanged
  | quoteExpired
  | stopStateChanged
  | pageChanged
  | cuePending
  | journalMark
  | lineChanged
  | changeoverDone
  | stageResult
  | tableFull
deriving DecidableEq, Repr

/-- The port whose notify set holds the flag (R198). -/
def Flag.port : Flag → PortId
  | .salesStateChanged | .quoteExpired | .stopStateChanged => .sale
  | .pageChanged | .cuePending => .board
  | .journalMark | .lineChanged | .changeoverDone | .stageResult | .tableFull => .office

/-- The flag's bit in its set (R203). -/
def Flag.mask : Flag → BitVec 8
  | .salesStateChanged | .pageChanged | .journalMark => 1
  | .quoteExpired | .cuePending | .lineChanged => 2
  | .stopStateChanged | .changeoverDone => 4
  | .stageResult => 8
  | .tableFull => 16

/-- The mask bits a port has flags for (R198). -/
def PortId.allFlags : PortId → BitVec 8
  | .sale => 7
  | .board => 3
  | .office => 31

/-- Sets a flag in its port's notify set when `c` holds; a flag already set stays set (R198). -/
def Device.setFlagIf (c : Bool) (f : Flag) (d : Device) : Device :=
  d.setPort f.port { d.port f.port with notify := if c then (d.port f.port).notify ||| f.mask else (d.port f.port).notify }

/-- Sets a flag in its port's notify set (R198). -/
def Device.setFlag (f : Flag) (d : Device) : Device := d.setFlagIf true f

/-- Clears a flag in its port's notify set. -/
def Device.clearFlag (f : Flag) (d : Device) : Device :=
  d.setPort f.port { d.port f.port with notify := (d.port f.port).notify &&& ~~~f.mask }

/-- Whether a flag stands in its port's notify set. -/
def Device.hasFlag (f : Flag) (d : Device) : Bool := ((d.port f.port).notify &&& f.mask) != 0

/-! ## Output lines -/

/-- READY: high exactly in RESPONSE_READY (R188). -/
def Device.readyLine (d : Device) (p : PortId) : Bool := (d.port p).mode == .responseReady

/-- NOTIFY: high while a flag is set whose mask bit is set, and low in STARTING (R198). -/
def Device.notifyLine (d : Device) (p : PortId) : Bool :=
  (d.port p).mode != .starting && ((d.port p).notify &&& (d.port p).mask) != 0

end Sys2Proof.Machine
end

