-- ==== Sys2Proof/Machine/Operands.lean ====
section
/-!
DEFINITION. Operand and data encodings of the ports (R189, R192 to R194, R202 to R204): reading a command's parameter
bytes, the checks CRC-8 and CRC-16, the codes of enumerations, and the bytes of numbers and texts.
-/

namespace Sys2Proof.Machine

/-! ## Reading parameter bytes -/

/-- Parameter byte `i`, 0 when the parameters are shorter (the length test of R189 comes first). -/
def byteAt (ps : List Byte) (i : Nat) : Nat := (ps.getD i 0).toNat

/-- The 2-byte number at `i`, most significant byte first (R202). -/
def u16At (ps : List Byte) (i : Nat) : Nat := byteAt ps i * 256 + byteAt ps (i + 1)

/-- The 3-byte number at `i` (R202). -/
def u24At (ps : List Byte) (i : Nat) : Nat := u16At ps i * 256 + byteAt ps (i + 2)

/-- The 4-byte number at `i` (R202). -/
def u32At (ps : List Byte) (i : Nat) : Nat := u16At ps i * 65536 + u16At ps (i + 2)

/-- The text at `i`: a length byte and that many characters (R202). -/
def textAt (ps : List Byte) (i : Nat) : Text := (ps.drop (i + 1)).take (byteAt ps i)

/-- A set-or-clear byte must be 0 or 1 (R189). -/
def isFlagByte (n : Nat) : Bool := decide (n ≤ 1)

/-- A text of 1 to `limit` characters with codes 32 to 126 (R1, R111, R163, R197). -/
def textOk (limit : Nat) (t : Text) : Bool :=
  decide (1 ≤ t.length) && decide (t.length ≤ limit) && t.all (fun c => decide (32 ≤ c.toNat) && decide (c.toNat ≤ 126))

/-! ## Writing data bytes -/

def be8 (n : Nat) : List Byte := [BitVec.ofNat 8 n]

def be16 (n : Nat) : List Byte := [BitVec.ofNat 8 (n / 256), BitVec.ofNat 8 n]

def be24 (n : Nat) : List Byte := [BitVec.ofNat 8 (n / 65536), BitVec.ofNat 8 (n / 256), BitVec.ofNat 8 n]

def be32 (n : Nat) : List Byte :=
  [BitVec.ofNat 8 (n / 16777216), BitVec.ofNat 8 (n / 65536), BitVec.ofNat 8 (n / 256), BitVec.ofNat 8 n]

/-- A signed 3-byte number in two's complement (R202). -/
def be24Int (i : Int) : List Byte := be24 (BitVec.ofInt 24 i).toNat

/-- A flag byte: 1 for set or on, 0 for clear or off (R202). -/
def beFlag (b : Bool) : List Byte := [if b then 1 else 0]

/-- A text: a length byte followed by its characters (R202). -/
def beText (t : Text) : List Byte := be8 t.length ++ t

/-- A date, or all bits set when absent (R202). -/
def beDate? : Option Date → List Byte
  | some x => be16 x.toNat
  | none => [0xFF, 0xFF]

/-- A time or serial, or all bits set when absent (R202). -/
def be24? : Option Nat → List Byte
  | some n => be24 n
  | none => [0xFF, 0xFF, 0xFF]

/-- A train number or an id, 0 when absent (R202). -/
def be16Or0 (n : Option Nat) : List Byte := be16 (n.getD 0)

/-- An index or notice number for which 0 is not a value, 0 when absent (R202). -/
def be8Or0 (n : Option Nat) : List Byte := be8 (n.getD 0)

/-! ## Checks -/

/-- One bit of a CRC-8 with polynomial x^8 + x^5 + x^3 + x^2 + x + 1 (R193). -/
def crc8Bit (r : Byte) : Byte := if r.getLsbD 7 then (r <<< 1) ^^^ 0x2F else r <<< 1

def crc8Byte (r b : Byte) : Byte :=
  crc8Bit (crc8Bit (crc8Bit (crc8Bit (crc8Bit (crc8Bit (crc8Bit (crc8Bit (r ^^^ b))))))))

/-- The CHECK of a frame, over the bytes from LEN on (R193). -/
def crc8 (bs : List Byte) : Byte := bs.foldl crc8Byte 0xFF

/-- One bit of a CRC-16 with polynomial x^16 + x^12 + x^5 + 1 (R141). -/
def crc16Bit (r : BitVec 16) : BitVec 16 := if r.getLsbD 15 then (r <<< 1) ^^^ 0x1021 else r <<< 1

def crc16Byte (r : BitVec 16) (b : Byte) : BitVec 16 :=
  crc16Bit (crc16Bit (crc16Bit (crc16Bit (crc16Bit (crc16Bit (crc16Bit (crc16Bit (r ^^^ (b.zeroExtend 16 <<< 8)))))))))

/-- The chain CRC over the bytes given, from an initial value (R141). -/
def crc16 (init : BitVec 16) (bs : List Byte) : BitVec 16 := bs.foldl crc16Byte init

/-! ## Codes of enumerations (R202, R203) -/

def Direction.ofCode : Nat → Option Direction
  | 1 => some .up
  | 2 => some .down
  | _ => none

def CallKind.ofCode : Nat → Option CallKind
  | 1 => some .stop
  | 2 => some .request
  | 3 => some .pass
  | _ => none

def TicketType.ofCode : Nat → Option TicketType
  | 1 => some .single
  | 2 => some .returnT
  | 3 => some .day
  | _ => none

def TicketType.code : TicketType → Nat
  | .single => 1
  | .returnT => 2
  | .day => 3

def TicketClass.ofCode : Nat → Option TicketClass
  | 1 => some .adult
  | 2 => some .child
  | 3 => some .concession
  | _ => none

def TicketClass.code : TicketClass → Nat
  | .adult => 1
  | .child => 2
  | .concession => 3

def PayKind.ofCode : Nat → Option PayKind
  | 1 => some .cash
  | 2 => some .card
  | _ => none

def PayKind.code : PayKind → Nat
  | .cash => 1
  | .card => 2

def ApplyMode.ofCode : Nat → Option ApplyMode
  | 1 => some .none
  | 2 => some .replace
  | 3 => some .swap
  | _ => Option.none

def ApplyMode.code : ApplyMode → Nat
  | .none => 1
  | .replace => 2
  | .swap => 3

def FilterAction.ofCode : Nat → Option FilterAction
  | 1 => some .accept
  | 2 => some .reject
  | _ => none

def FilterAction.code : FilterAction → Nat
  | .accept => 1
  | .reject => 2

def Health.ofCode : Nat → Option Health
  | 1 => some .ok
  | 2 => some .fault
  | _ => none

def Health.code : Health → Nat
  | .ok => 1
  | .fault => 2

def NoticeKind.ofCode : Nat → Option NoticeKind
  | 1 => some .office
  | 2 => some .canned
  | _ => none

def NoticeKind.code : NoticeKind → Nat
  | .office => 1
  | .canned => 2

def NoticeForm.ofCode : Nat → Option NoticeForm
  | 1 => some .ticker
  | 2 => some .page
  | _ => none

def RunEvent.ofCode : Nat → Option RunEvent
  | 1 => some .passed
  | 2 => some .arrived
  | 3 => some .departed
  | _ => none

def Band.code : Band → Nat
  | .peak => 1
  | .offPeak => 2

def SalesState.code : SalesState → Nat
  | .closed => 1
  | .suspended => 2
  | .restricted => 3
  | .isOpen => 4

def BankState.code : BankState → Nat
  | .empty => 1
  | .loading => 2
  | .ready => 3
  | .broken => 4

def ClockState.code : ClockState → Nat
  | .unset => 1
  | .synced => 2
  | .free => 3

def LineState.code : LineState → Nat
  | .up => 1
  | .down => 2

def RunState.code : RunState → Nat
  | .expected => 1
  | .running => 2
  | .approaching => 3
  | .atHalt => 4
  | .departed => 5
  | .passed => 6
  | .cancelled => 7

def StopState.code : StopState → Nat
  | .none => 1
  | .pending => 2
  | .sent => 3
  | .confirmed => 4
  | .unconfirmed => 5

def UnitState.code : UnitState → Nat
  | .disarmed => 1
  | .armed => 2
  | .timing => 3

def Trigger.code : Trigger → Nat
  | .dayBoundary => 1
  | .lastCallDone => 2
  | .applyNow => 3

def ButtonState.code : ButtonState → Nat
  | .released => 1
  | .pressed => 2

def LampMode.code : LampMode → Nat
  | .off => 1
  | .steady => 2
  | .flashing => 3

def CueKind.code : CueKind → Nat
  | .approaching => 1
  | .passing => 2
  | .delayed => 3
  | .cancelled => 4
  | .platformChange => 5
  | .mayNotStop => 6
  | .notice => 7

def Status.code : Status → Byte
  | .ok => 0
  | .pending => 1
  | .frameError => 2
  | .unknownCommand => 3
  | .notPermitted => 4
  | .badParam => 5
  | .busy => 6
  | .refused => 7

/-- The reasons that follow REFUSED (R192, R203). -/
inductive Reason where
  | salesClosed
  | journalLow
  | notSold
  | classNotOffered
  | departureUnknown
  | trainCancelled
  | tooLate
  | passTrain
  | quoteUnknown
  | quoteStale
  | amountMismatch
  | departureGone
  | stopUnavailable
  | tableFull
  | voidRefused
  | duplicate
  | full
  | notLoading
  | storeFull
  | busy
  | notArmed
deriving DecidableEq, Repr

def Reason.code : Reason → Byte
  | .salesClosed => 1
  | .journalLow => 2
  | .notSold => 3
  | .classNotOffered => 4
  | .departureUnknown => 5
  | .trainCancelled => 6
  | .tooLate => 7
  | .passTrain => 8
  | .quoteUnknown => 9
  | .quoteStale => 10
  | .amountMismatch => 11
  | .departureGone => 12
  | .stopUnavailable => 13
  | .tableFull => 14
  | .voidRefused => 15
  | .duplicate => 16
  | .full => 17
  | .notLoading => 18
  | .storeFull => 19
  | .busy => 20
  | .notArmed => 21

/-! ## Commands: codes, rights and lengths (R194, R203, R204) -/

/-- The commands that a CMD byte names (R194). -/
inductive Cmd where
  | quote
  | issue
  | void
  | cancelQuote
  | readPage
  | takeCue
  | reportScreen
  | readDepartures
  | readNotify
  | setNotifyMask
  | stageBegin
  | stagePutDest
  | stagePutCall
  | stagePutFare
  | stagePutRules
  | stageClose
  | changeoverSet
  | applyNow
  | putNotice
  | removeNotice
  | showNotice
  | hideNotice
  | setFilter
  | setHalt
  | setScreen
  | setGroup
  | setTime
  | setSerialBase
  | setPartition
  | readJournal
  | release
  | openSales
  | closeSales
  | restartLine
  | restart
  | readStatus
deriving DecidableEq, Repr

/-- The command code (R194). -/
def Cmd.code : Cmd → Byte
  | .quote => 1
  | .issue => 2
  | .void => 3
  | .cancelQuote => 4
  | .readPage => 8
  | .takeCue => 9
  | .reportScreen => 10
  | .readDepartures => 12
  | .readNotify => 13
  | .setNotifyMask => 14
  | .stageBegin => 16
  | .stagePutDest => 17
  | .stagePutCall => 18
  | .stagePutFare => 19
  | .stagePutRules => 20
  | .stageClose => 21
  | .changeoverSet => 22
  | .applyNow => 23
  | .putNotice => 24
  | .removeNotice => 25
  | .showNotice => 26
  | .hideNotice => 27
  | .setFilter => 28
  | .setHalt => 29
  | .setScreen => 30
  | .setGroup => 31
  | .setTime => 32
  | .setSerialBase => 33
  | .setPartition => 34
  | .readJournal => 35
  | .release => 36
  | .openSales => 37
  | .closeSales => 38
  | .restartLine => 39
  | .restart => 40
  | .readStatus => 41

/-- The command a CMD byte names, if it names one (R189 test 2, R194). -/
def Cmd.ofCode : Nat → Option Cmd
  | 1 => some .quote
  | 2 => some .issue
  | 3 => some .void
  | 4 => some .cancelQuote
  | 8 => some .readPage
  | 9 => some .takeCue
  | 10 => some .reportScreen
  | 12 => some .readDepartures
  | 13 => some .readNotify
  | 14 => some .setNotifyMask
  | 16 => some .stageBegin
  | 17 => some .stagePutDest
  | 18 => some .stagePutCall
  | 19 => some .stagePutFare
  | 20 => some .stagePutRules
  | 21 => some .stageClose
  | 22 => some .changeoverSet
  | 23 => some .applyNow
  | 24 => some .putNotice
  | 25 => some .removeNotice
  | 26 => some .showNotice
  | 27 => some .hideNotice
  | 28 => some .setFilter
  | 29 => some .setHalt
  | 30 => some .setScreen
  | 31 => some .setGroup
  | 32 => some .setTime
  | 33 => some .setSerialBase
  | 34 => some .setPartition
  | 35 => some .readJournal
  | 36 => some .release
  | 37 => some .openSales
  | 38 => some .closeSales
  | 39 => some .restartLine
  | 40 => some .restart
  | 41 => some .readStatus
  | _ => none

/-- The rights table of R194. -/
def Cmd.permitted (c : Cmd) (p : PortId) : Bool :=
  match c with
  | .quote | .issue | .void | .cancelQuote => p == .sale
  | .readPage | .takeCue | .reportScreen => p == .board
  | .readDepartures | .readNotify | .setNotifyMask => true
  | .stageBegin | .stagePutDest | .stagePutCall | .stagePutFare | .stagePutRules | .stageClose
  | .changeoverSet | .applyNow | .putNotice | .removeNotice | .showNotice | .hideNotice | .setFilter | .setHalt
  | .setScreen | .setGroup | .setTime | .setSerialBase | .setPartition | .readJournal | .release | .openSales
  | .closeSales | .restartLine | .restart | .readStatus => p == .office

/-- Test 5 of R189: the parameters have the length the layouts of R203 and R204 require, counts taken as given. -/
def Cmd.lengthOk (c : Cmd) (ps : List Byte) : Bool :=
  match c with
  | .quote => ps.length == 7
  | .issue => ps.length == 5
  | .void => ps.length == 3
  | .cancelQuote => ps.length == 1
  | .readPage => ps.length == 1
  | .takeCue => ps.length == 0
  | .reportScreen => ps.length == 2
  | .readDepartures => ps.length == 4
  | .readNotify => ps.length == 0
  | .setNotifyMask => ps.length == 1
  | .stageBegin => ps.length == 3
  | .stagePutDest => ps.length == 1 + byteAt ps 0 && ps.length != 0
  | .stagePutCall => ps.length == 16 + 7 * byteAt ps 13
  | .stagePutFare => ps.length == 6 + byteAt ps 5
  | .stagePutRules => ps.length == 23 + 7 * byteAt ps 22
  | .stageClose => ps.length == 2
  | .changeoverSet => ps.length == 6
  | .applyNow => ps.length == 0
  | .putNotice => ps.length == 17 + byteAt ps 16
  | .removeNotice | .showNotice | .hideNotice => ps.length == 1
  | .setFilter => ps.length == 11
  | .setHalt => ps.length == 12 + byteAt ps 2
  | .setScreen => ps.length == 3
  | .setGroup => ps.length == 2
  | .setTime => ps.length == 5
  | .setSerialBase => ps.length == 3
  | .setPartition => ps.length == 1
  | .readJournal => ps.length == 3
  | .release => ps.length == 3
  | .openSales | .closeSales | .restartLine | .restart => ps.length == 0
  | .readStatus => ps.length == 1

/-- The three commands whose responses are sent in segments (R192). -/
def Cmd.segmented : Cmd → Bool
  | .readPage | .readDepartures | .readStatus => true
  | _ => false

/-! ## Replies and frames -/

/-- What an owning block answers: a status and the data of the response (R192). -/
structure Reply where
  status : Status
  data : List Byte
deriving DecidableEq, Repr

def Reply.ok (data : List Byte) : Reply := { status := .ok, data := data }

def Reply.badParam (data : List Byte) : Reply := { status := .badParam, data := data }

/-- REFUSED carries the reason code and then the datum the owning rule names (R192). -/
def Reply.refused (r : Reason) (data : List Byte) : Reply := { status := .refused, data := r.code :: data }

/-- A response frame: LEN, CMD, STATUS, data, CHECK (R203). -/
def responseFrame (cmd : Byte) (st : Status) (data : List Byte) : List Byte :=
  let body := BitVec.ofNat 8 (data.length + 3) :: cmd :: st.code :: data
  body ++ [crc8 body]

/-- How many segments a segmented response takes: 250 data bytes to each but the last (R192). -/
def Response.segments (r : Response) : Nat := if r.segmented then max 1 ((r.data.length + 249) / 250) else 1

/-- The frame of segment `k` of a response; the segment byte gives the index and the last flag (R192, R203). -/
def Response.frame (r : Response) (k : Nat) : List Byte :=
  if r.segmented then
    responseFrame r.cmd r.status
      (BitVec.ofNat 8 (k + if k + 1 = r.segments then 128 else 0) :: (r.data.drop (250 * k)).take 250)
  else responseFrame r.cmd r.status r.data

/-- A short frame: LEN 1 and a status (R191, R203). -/
def shortFrame (st : Status) : List Byte := [1, st.code]

/-- A command frame: LEN, CMD, parameters, CHECK (R203). -/
def commandFrame (c : Cmd) (ps : List Byte) : List Byte :=
  let body := BitVec.ofNat 8 (ps.length + 2) :: c.code :: ps
  body ++ [crc8 body]

end Sys2Proof.Machine
end

