-- ==== Sys2Proof/Machine/Ops.lean ====
section
/-!
DEFINITION. The named operations that the blocks share: free order choices, date arithmetic, sorting by key, the running
table's entries, and the hand-over of a cue to the Cue Queue.
-/

namespace Sys2Proof.Machine

/-! ## Free order choices (log 6) -/

/-- The permutation of `l` that the digits of `k` choose; 0 chooses `l` itself. -/
def permute {α : Type} : Nat → List α → List α
  | _, [] => []
  | k, x :: xs =>
    let rest := permute (k / (xs.length + 1)) xs
    rest.take (k % (xs.length + 1)) ++ x :: rest.drop (k % (xs.length + 1))

/-- How many choices `permute` has for a list of `n` items. -/
def choices : Nat → Nat
  | 0 => 1
  | n + 1 => (n + 1) * choices n

/-- `l` in an order the spec leaves open, and the device with that choice used up. -/
def Device.shuffle {α : Type} (d : Device) (l : List α) : List α × Device :=
  (permute d.sched l, { d with sched := d.sched / choices l.length })

/-- Runs `f` for each item of `l`, in an order the spec leaves open. -/
def Device.forAll {α : Type} (l : List α) (f : α → Device → Device) (d : Device) : Device :=
  (d.shuffle l).1.foldl (fun d x => f x d) (d.shuffle l).2

/-- A choice of two that the spec leaves open, and the device with it used up. -/
def Device.freeChoice (d : Device) : Bool × Device := (d.sched % 2 == 1, { d with sched := d.sched / 2 })

/-- Runs `f` when `c` holds. -/
def Device.when (c : Bool) (f : Device → Device) (d : Device) : Device := if c then f d else d

/-! ## Dates and times -/

/-- A difference of two service dates, from -32768 to 32767 (R21). -/
def dateDiff (a b : Date) : Int := (a - b).toInt

/-- The weekday of a service date, 0 for Monday (R14). -/
def weekday (x : Date) : Nat := x.toNat % 7

/-- Today's service date. -/
def Device.today (d : Device) : Date := d.clock.date

/-- The current service second N. -/
def Device.now (d : Device) : Nat := d.clock.second

/-- The current time on the count that starts at 03:00 of date `x`: the entry time of R70, and N as R77 gives it. -/
def Device.timeFrom (d : Device) (x : Date) : Int := dateDiff d.today x * 86400 + (d.now : Int)

/-- The seconds from one moment to another across dates (R24). -/
def secondsBetween (d1 : Date) (s1 : Nat) (d2 : Date) (s2 : Nat) : Int :=
  dateDiff d2 d1 * 86400 + (s2 : Int) - (s1 : Int)

/-- The displayed minute of a time (R88). -/
def displayedMinute (t : Nat) : Nat := (t + 30) / 60

/-- The clock minute, 0 to 1439, of a displayed minute (R88). -/
def clockMinute (m : Nat) : Nat := (m + 180) % 1440

/-! ## Sorting -/

/-- Inserts `x` behind every item that `x` does not come before. -/
def insertBy {α : Type} (before : α → α → Bool) (x : α) : List α → List α
  | [] => [x]
  | y :: ys => if before x y then x :: y :: ys else y :: insertBy before x ys

/-- A stable sort. -/
def sortBy {α : Type} (before : α → α → Bool) (l : List α) : List α := l.foldl (fun acc x => insertBy before x acc) []

/-! ## Running entries -/

/-- Whether an entry is LISTED: it holds a call (R51). -/
def Entry.listed (e : Entry) : Bool := e.held.isSome

/-- The entry of train `t`, whatever its service date and state (R52). -/
def Device.entry? (d : Device) (t : Nat) : Option Entry := d.table.entries.find? (fun e => e.train == t)

/-- Writes fields of the entry of train `t`, if the train has one. -/
def Device.updateEntry (t : Nat) (f : Entry → Entry) (d : Device) : Device :=
  { d with table := { d.table with entries := d.table.entries.map (fun e => if e.train == t then f e else e) } }

/-- The entry time of an entry (R70, R77). -/
def Device.entryTime (d : Device) (e : Entry) : Int := d.timeFrom e.date

/-- Whether an index is absent or below a call's cutoff index (R96, R105, R107). -/
def belowCutoff (index : Option Nat) (c : CallRec) : Bool :=
  match index, c.cutoff with
  | some i, some k => decide (i < k)
  | _, _ => true

/-- Whether an entry's last point index is at or above its call's cutoff index (R119). -/
def cutoffPassed (e : Entry) (c : CallRec) : Bool :=
  match c.kind with
  | .request => !belowCutoff e.lastIndex c
  | _ => false

/-! ## Entry notices (R64) -/

inductive NoticeCause where
  | entered
  | report
  | cancel
  | reinstate
  | platform (former new : Nat)
  | removed
deriving DecidableEq, Repr

/-- What an entry notice carries; `date` is the entry's service date, which the finished set reads at a removal (R155). -/
structure EntryNotice where
  train : Nat
  date : Date
  cause : NoticeCause
  stateBefore : RunState
  stateAfter : RunState
  indexBefore : Option Nat
  indexAfter : Option Nat
deriving DecidableEq, Repr

/-! ## The Cue Queue (R170, R173) -/

/-- The lowest priority among cues. -/
def lowestPriority (cs : List Cue) : Nat := cs.foldl (fun m c => min m c.priority) 3

/-- Removes the oldest cue of priority `p`. -/
def dropOldest (p : Nat) : List Cue → List Cue
  | [] => []
  | c :: cs => if c.priority == p then cs else c :: dropOldest p cs

/-- The queue after a cue is offered to it (R173). -/
def offerTo (cs : List Cue) (c : Cue) : List Cue :=
  if cs.length < 16 then cs ++ [c]
  else if lowestPriority cs < c.priority then dropOldest (lowestPriority cs) cs ++ [c]
  else cs

/-- Offers a cue to the Cue Queue; a cue appended to an empty queue sets CUE_PENDING (R173, R174). -/
def Device.offerCue (c : Cue) (d : Device) : Device :=
  { d with cues := offerTo d.cues c }.setFlagIf d.cues.isEmpty .cuePending

/-- Offers a cue about a train, stamped with N (R170). -/
def Device.trainCue (k : CueKind) (train : Nat) (platform : Option Nat) (priority : Nat) (d : Device) : Device :=
  d.offerCue { kind := k, train := some train, platform := platform, notice := none, priority := priority, second := d.now }

end Sys2Proof.Machine
end

