-- ==== Sys2Proof/Machine/Timetable.lean ====
section
/-!
DEFINITION. The Timetable Store (R1 to R18): staged loading, the field checks, closing, the exchange of an apply, the day
list and lookups.
-/

namespace Sys2Proof.Machine

/-! ## Lookups (R14, R15) -/

def CallRec.runsOn (c : CallRec) (x : Date) : Bool := c.days.getLsbD (weekday x)

/-- The name at a destination index of a bank (R15). -/
def TimetableBank.nameAt (b : TimetableBank) (i : Nat) : Text := b.names.getD i []

/-- The day list of date `x`: the calls of the ACTIVE bank that run on its weekday, in bank order, each with its
destination name (R14). -/
def TimetableStore.dayList (tt : TimetableStore) (x : Date) : List HeldCall :=
  (tt.active.calls.filter (fun c => c.runsOn x)).map (fun c => { call := c, name := tt.active.nameAt c.dest })

/-- The lookup of train `t` on date `x` (R15). -/
def TimetableStore.lookup (tt : TimetableStore) (x : Date) (t : Nat) : Option HeldCall :=
  (tt.dayList x).find? (fun h => h.call.train == t)

/-! ## Staged loading (R3, R5, R7) -/

/-- The bank order of R1: by S_d, then by train number. -/
def CallRec.before (a b : CallRec) : Bool :=
  decide (a.schedDep < b.schedDep) || (a.schedDep == b.schedDep && decide (a.train < b.train))

/-- A bank in which a load begins (R5). -/
def TimetableBank.begun (id : Nat) : TimetableBank := { id := some id, names := [], calls := [], state := .loading }

/-- A bank with a name more, at the index equal to the destination count (R3). -/
def TimetableBank.addName (b : TimetableBank) (t : Text) : TimetableBank := { b with names := b.names ++ [t] }

/-- A bank with a call more, in its place in bank order (R2). -/
def TimetableBank.addCall (b : TimetableBank) (c : CallRec) : TimetableBank :=
  { b with calls := insertBy CallRec.before c b.calls }

/-- A call record as STAGE_PUT_CALL sends it, before its checks (R203). -/
structure RawCall where
  train : Nat
  direction : Nat
  kind : Nat
  platform : Nat
  days : Nat
  schedArr : Nat
  schedDep : Nat
  dest : Nat
  route : List RoutePoint
  cutoff : Nat
  approach : Nat
deriving DecidableEq, Repr

/-- The route points from offset `i` on (R203). -/
def routeAt (ps : List Byte) (i : Nat) : Nat → List RoutePoint
  | 0 => []
  | n + 1 =>
    { point := u16At ps i, passing := u24At ps (i + 2), margin := u16At ps (i + 5) } :: routeAt ps (i + 7) n

def RawCall.parse (ps : List Byte) : RawCall :=
  { train := u16At ps 0, direction := byteAt ps 2, kind := byteAt ps 3, platform := byteAt ps 4, days := byteAt ps 5,
    schedArr := u24At ps 6, schedDep := u24At ps 9, dest := byteAt ps 12, route := routeAt ps 16 (byteAt ps 13),
    cutoff := byteAt ps 14, approach := byteAt ps 15 }

/-- Check 11: point numbers in range and no two equal (R8). -/
def pointsOk (route : List RoutePoint) : Bool :=
  route.all (fun r => decide (1 ≤ r.point) && decide (r.point ≤ 2047)) && decide ((route.map RoutePoint.point).Nodup)

/-- Check 13, first half: P_k strictly increases along the route (R8). -/
def passingRises : List RoutePoint → Bool
  | [] => true
  | [_] => true
  | a :: b :: rest => decide (a.passing < b.passing) && passingRises (b :: rest)

/-- Check 14, second half: each margin is at most the one before it (R8). -/
def marginFalls : List RoutePoint → Bool
  | [] => true
  | [_] => true
  | a :: b :: rest => decide (b.margin ≤ a.margin) && marginFalls (b :: rest)

/-- Check 13: the passing times rise and the last is at most S_a (R8). -/
def passingOk (route : List RoutePoint) (schedArr : Nat) : Bool :=
  passingRises route && (route.getLast?.map (fun r => decide (r.passing ≤ schedArr))).getD true

/-- Check 14 (R8). -/
def marginsOk (route : List RoutePoint) : Bool := route.all (fun r => decide (r.margin ≤ 900)) && marginFalls route

/-- The sixteen field checks of STAGE_PUT_CALL in their order, each with its outcome (R8). -/
def RawCall.checks (r : RawCall) (ownPoint : Nat) : List Bool :=
  [ decide (1 ≤ r.train) && decide (r.train ≤ 9999)
  , (Direction.ofCode r.direction).isSome
  , (CallKind.ofCode r.kind).isSome
  , decide (1 ≤ r.platform) && decide (r.platform ≤ 4)
  , decide (1 ≤ r.days) && decide (r.days ≤ 127)
  , decide (r.schedArr ≤ 86399) && decide (r.schedDep ≤ 86399)
  , decide (r.schedArr ≤ r.schedDep) && decide (r.schedDep ≤ r.schedArr + 1800)
  , r.kind != 3 || r.schedDep == r.schedArr
  , decide (r.dest ≤ 31)
  , decide (1 ≤ r.route.length) && decide (r.route.length ≤ 6)
  , pointsOk r.route
  , r.route.all (fun p => p.point != ownPoint)
  , passingOk r.route r.schedArr
  , marginsOk r.route
  , if r.kind == 2 then decide (1 ≤ r.cutoff) && decide (r.cutoff ≤ r.route.length) else r.cutoff == 0
  , decide (r.approach ≤ r.route.length) ]

/-- The number, from `n` on, of the first check that fails. -/
def firstFailing (n : Nat) : List Bool → Option Nat
  | [] => none
  | true :: rest => firstFailing (n + 1) rest
  | false :: _ => some n

/-- An index byte, of which 0 means absent (R203). -/
def indexByte (n : Nat) : Option Nat := if n = 0 then none else some n

/-- The call record of a raw call; read after the checks have passed. -/
def RawCall.toCall (r : RawCall) : CallRec :=
  { train := r.train, direction := (Direction.ofCode r.direction).getD .up, kind := (CallKind.ofCode r.kind).getD .stop,
    platform := r.platform, days := BitVec.ofNat 7 r.days, schedArr := r.schedArr, schedDep := r.schedDep, dest := r.dest,
    route := r.route, cutoff := indexByte r.cutoff, approach := indexByte r.approach }

/-- The stored call that a new call meets as a duplicate: the same train and a shared weekday (R10). Of several, the first in
bank order: DESIGN CHOICE (log 38). -/
def TimetableBank.duplicate (b : TimetableBank) (c : CallRec) : Option CallRec :=
  b.calls.find? (fun s => s.train == c.train && (s.days &&& c.days) != 0)

/-! ## Closing (R11) -/

/-- The first call, in bank order, without a name (R11). -/
def TimetableBank.unnamed (b : TimetableBank) : Option CallRec :=
  b.calls.find? (fun c => decide (b.names.length ≤ c.dest))

/-- The state a close leaves: READY when the count agrees and every call has a name (R11). -/
def TimetableBank.closeState (b : TimetableBank) (count : Nat) : BankState :=
  if count == b.calls.length && b.unnamed.isNone then .ready else .broken

/-- The data of a STAGE_CLOSE response, in the order of R11's table. -/
def TimetableBank.closeData (b : TimetableBank) (count : Nat) : List Byte :=
  be8 (b.closeState count).code ++ be8 b.calls.length ++ be8 b.names.length ++ beFlag (count != b.calls.length)
    ++ beFlag b.unnamed.isSome ++ be16Or0 (b.unnamed.map CallRec.train)

/-! ## Apply (R13) -/

/-- What an apply of the timetable item does to the two banks, and the item's result (R13, R183). -/
def TimetableStore.apply (tt : TimetableStore) (m : ApplyMode) : TimetableStore × ItemResult :=
  match m with
  | .none => (tt, .none)
  | .replace =>
    if tt.staged.state = .ready then ({ active := tt.staged, staged := .cleared }, .applied)
    else (tt, .notApplied tt.staged.state)
  | .swap =>
    if tt.staged.state = .ready then ({ active := tt.staged, staged := tt.active }, .applied)
    else (tt, .notApplied tt.staged.state)

/-! ## Commands -/

/-- Stores a new STAGED bank. -/
def Device.setStaged (b : TimetableBank) (d : Device) : Device := { d with tt := { d.tt with staged := b } }

/-- STAGE_BEGIN(TIMETABLE) with the id given (R5). -/
def stageBeginTimetable (id : Nat) (d : Device) : Device × Reply :=
  if id = 0 then (d, .badParam [])
  else if d.co.unit = .timing then (d, .refused .busy [])
  else (d.setStaged (.begun id), .ok [])

/-- STAGE_PUT_DEST (R3). -/
def runStagePutDest (ps : List Byte) (d : Device) : Device × Reply :=
  if d.tt.staged.state ≠ .loading then (d, .refused .notLoading [])
  else if ¬ textOk 24 (textAt ps 0) then (d, .badParam [])
  else if 32 ≤ d.tt.staged.names.length then (d, .refused .full [])
  else (d.setStaged (d.tt.staged.addName (textAt ps 0)), .ok (be8 d.tt.staged.names.length))

/-- STAGE_PUT_CALL: its four tests in order, and the storing of the call (R7, R8, R10, R2). The check number and the call count
take 1 byte: DESIGN CHOICE (log 15). -/
def runStagePutCall (ps : List Byte) (d : Device) : Device × Reply :=
  if d.tt.staged.state ≠ .loading then (d, .refused .notLoading [])
  else
    match firstFailing 1 ((RawCall.parse ps).checks d.halt.ownPoint) with
    | some n => (d, .badParam (be8 n))
    | none =>
      if 96 ≤ d.tt.staged.calls.length then (d, .refused .full [])
      else
        match d.tt.staged.duplicate (RawCall.parse ps).toCall with
        | some c => (d, .refused .duplicate (be16 c.train ++ be8 c.days.toNat))
        | none =>
          (d.setStaged (d.tt.staged.addCall (RawCall.parse ps).toCall), .ok (be8 (d.tt.staged.calls.length + 1)))

/-- STAGE_CLOSE for the timetable item with the office's count (R11, R12). -/
def stageCloseTimetable (count : Nat) (d : Device) : Device × Reply :=
  if d.tt.staged.state ≠ .loading then (d, .refused .notLoading [])
  else if 96 < count then (d, .badParam [])
  else
    ((d.setStaged { d.tt.staged with state := d.tt.staged.closeState count }).setFlag .stageResult,
      .ok (d.tt.staged.closeData count))

end Sys2Proof.Machine
end

