-- ==== Sys2Proof/Machine/Forecast.lean ====
section
/-!
DEFINITION. The forecast arithmetic (R78 to R86) and what passengers are shown (R88 to R91), on one entry or call.
-/

namespace Sys2Proof.Machine

/-! ## The arithmetic -/

/-- The upper limit of every forecast time, and the lower limit 0, on a whole number of seconds (R79, R81). -/
def clampTime (t : Int) : Nat := min t.toNat 108119

/-- F from the reported delay and the margin at the last point (R78). -/
def delayFromReport (early : Nat) (d : Int) (margin : Nat) : Int :=
  if (margin : Int) < d then d - margin
  else if 0 ≤ d then 0
  else max d (-(early : Int))

/-- F of an AT_HALT entry from its halt arrival time (R78). -/
def delayAtHalt (early : Nat) (arrival schedArr : Nat) : Int :=
  max (-(early : Int)) (min 21600 ((arrival : Int) - schedArr))

/-- The margin M_k at route point `k` of a call, k from 1. -/
def CallRec.marginAt (c : CallRec) (k : Nat) : Option Nat := (c.route[k - 1]?).map RoutePoint.margin

/-- The forecast delay F of an entry in scope (R78). It is absent only where an entry lacks the report its state needs,
which the rules never leave so (log 27). -/
def Entry.forecastDelay (early : Nat) (e : Entry) (c : CallRec) : Option Int :=
  match e.state with
  | .expected => some 0
  | .running | .approaching =>
    match e.delay, e.lastIndex.bind c.marginAt with
    | some d, some m => some (delayFromReport early d m)
    | _, _ => none
  | .atHalt => e.haltArrival.map (fun t => delayAtHalt early t c.schedArr)
  | .departed | .passed | .cancelled => none

/-- The forecast arrival A before the overdue hold (R79). -/
def Entry.forecastArrival (e : Entry) (c : CallRec) (f : Int) : Nat :=
  match e.state, e.haltArrival with
  | .atHalt, some t => clampTime t
  | _, _ => clampTime ((c.schedArr : Int) + f)

/-- The forecast departure Dep from A (R80), with N the entry's current time. -/
def Entry.forecastDeparture (dwell : Nat) (n : Int) (e : Entry) (c : CallRec) (a : Nat) : Nat :=
  match e.state with
  | .atHalt => clampTime (max (max (c.schedDep : Int) ((a : Int) + dwell)) n)
  | _ =>
    match c.kind with
    | .pass => a
    | .stop | .request => clampTime (max (c.schedDep : Int) ((a : Int) + dwell))

/-- Stages 1 to 4 of a recompute: F, A, Dep and the overdue hold (R78 to R80, R83). Where a backward step of the clock has put N
below the arrival of R79, R83 clears the flags, although R84 says that the slid A stands: DEDUCED (log 40). -/
def Entry.recomputeStages (dwell : Nat) (n : Int) (e : Entry) (c : CallRec) (f : Int) : Entry :=
  let a := e.forecastArrival c f
  if e.overdue && (e.state == .atHalt || decide (n < (a : Int))) then
    { e with forecast := some { delay := f, arrival := a, departure := e.forecastDeparture dwell n c a },
             overdue := false, overdueLong := false, firstOverdue := none }
  else
    let a' := if e.overdue then (e.forecast.map Forecast.arrival).getD a else a
    { e with forecast := some { delay := f, arrival := a', departure := e.forecastDeparture dwell n c a' } }

/-- Stage 5, on a minute tick: the overdue test (R82). -/
def Entry.overdueTest (dwell : Nat) (n : Int) (e : Entry) (c : CallRec) : Entry :=
  match e.forecast with
  | none => e
  | some fc =>
    if e.state = .atHalt ∨ n < (fc.arrival : Int) then e
    else
      let first := if e.overdue then e.firstOverdue.getD fc.arrival else fc.arrival
      let a := clampTime (n + 60)
      { e with forecast := some { fc with arrival := a, departure := e.forecastDeparture dwell n c a },
               overdue := true, firstOverdue := some first,
               overdueLong := (e.overdue && e.overdueLong) || decide ((first : Int) + 300 ≤ n) }

/-- How late the departure is: Dep - S_d (R86). -/
def Entry.lateness (e : Entry) (c : CallRec) : Int :=
  match e.forecast with
  | some fc => (fc.departure : Int) - c.schedDep
  | none => 0

/-- Whether stage 6 hands a DELAYED cue on (R86). -/
def Entry.delayCueDue (e : Entry) (c : CallRec) : Bool :=
  c.kind != .pass && !e.delayCued && decide (300 ≤ e.lateness c)

/-- DELAY_CUED after stage 6 (R86). -/
def Entry.delayCueTest (e : Entry) (c : CallRec) : Entry :=
  if e.delayCueDue c then { e with delayCued := true }
  else if c.kind != .pass && e.delayCued && decide (e.lateness c < 240) then { e with delayCued := false }
  else e

/-- A whole recompute of an entry in scope: the entry after it, and whether a DELAYED cue is handed on (R76). -/
def Entry.recompute (dwell early : Nat) (n : Int) (tick : Bool) (e : Entry) : Entry × Bool :=
  match e.held with
  | none => (e, false)
  | some h =>
    match e.forecastDelay early h.call with
    | none => (e, false)
    | some f =>
      let e1 := e.recomputeStages dwell n h.call f
      let e2 := if tick then e1.overdueTest dwell n h.call else e1
      (e2.delayCueTest h.call, e2.delayCueDue h.call)

/-- Whether an entry is in scope of the Forecast Unit (R76). -/
def Entry.inScope (clock : ClockState) (e : Entry) : Bool :=
  e.listed && clock != .unset &&
    (e.state == .expected || e.state == .running || e.state == .approaching || e.state == .atHalt)

/-- The timetable forecast of a call without an entry (R91). -/
def CallRec.timetableForecast (dwell : Nat) (c : CallRec) : Forecast :=
  { delay := 0, arrival := c.schedArr,
    departure := match c.kind with
      | .pass => c.schedDep
      | .stop | .request => max c.schedDep (c.schedArr + dwell) }

/-! ## What passengers are shown -/

/-- The status word, by the first line of R89 that applies. -/
def statusWord (clock : ClockState) (cancelled overdueLong : Bool) (departure schedDep : Nat) : StatusWord :=
  if clock = .unset then .none
  else if cancelled then .cancelled
  else if overdueLong then .delayed
  else if displayedMinute departure = displayedMinute schedDep then .onTime
  else .exp (clockMinute (displayedMinute departure))

/-- The smallest whole number of minutes at or above a number of seconds. -/
def ceilMinutes (t : Int) : Int := (t + 59) / 60

/-- The countdown of R90. -/
def countdownOf (status : StatusWord) (departure : Nat) (n : Int) : Countdown :=
  match status with
  | .none | .cancelled => .none
  | .onTime | .exp _ | .delayed =>
    if (departure : Int) - n ≤ 60 then .due
    else .minutes (min (ceilMinutes ((departure : Int) - n)).toNat 99)

/-- The request-stop text of a stop state (R160). -/
def StopState.text : StopState → StopText
  | .none => .requestStop
  | .pending | .sent => .stopRequested
  | .confirmed => .stopping
  | .unconfirmed => .mayNotStop

/-- The request-stop text that a call of a kind carries (R160, R200). -/
def CallKind.stopText (k : CallKind) (s : StopState) : Option StopText :=
  match k with
  | .request => some s.text
  | .stop | .pass => none

/-- The Dep that R89 and R90 read: the entry's, or a free value where it holds none (log 12). -/
def Entry.shownDeparture (e : Entry) : Nat :=
  match e.forecast with
  | some fc => fc.departure
  | none => Config.openDeparture e.train

/-- The row of a LISTED entry (R160). -/
def Entry.row (clock : ClockState) (n : Int) (e : Entry) (h : HeldCall) : Row :=
  let status := statusWord clock (e.state == .cancelled) e.overdueLong e.shownDeparture h.call.schedDep
  { train := e.train, schedMinute := displayedMinute h.call.schedDep, dest := h.name, platform := h.call.platform,
    status := status, countdown := countdownOf status e.shownDeparture n, stopText := h.call.kind.stopText e.stop }

/-- The row of a day-list call (R91, R160). -/
def HeldCall.row (clock : ClockState) (dwell : Nat) (n : Int) (h : HeldCall) : Row :=
  let dep := (h.call.timetableForecast dwell).departure
  let status := statusWord clock false false dep h.call.schedDep
  { train := h.call.train, schedMinute := displayedMinute h.call.schedDep, dest := h.name, platform := h.call.platform,
    status := status, countdown := countdownOf status dep n, stopText := h.call.kind.stopText .none }

end Sys2Proof.Machine
end

