-- ==== Sys2Proof/Machine/Board.lean ====
section
/-!
DEFINITION. The Board Composer (R151 to R162): candidates, departure lists, pages and their recomposition, and the screen
and group settings.
-/

namespace Sys2Proof.Machine

/-! ## Groups and shares (R152, R153) -/

/-- Whether a platform mask covers platform `p`. -/
def covers (mask : BitVec 4) (p : Nat) : Bool := decide (1 ≤ p) && mask.getLsbD (p - 1)

/-- The platform mask of group `g`. -/
def Board.groupMask (b : Board) (g : Nat) : BitVec 4 := b.groups.getD g 0

/-- How many of the groups are departure-bearing. -/
def bearing (groups : List (BitVec 4)) : Nat := (groups.filter (fun m => m != 0)).length

/-- The share of group `g`: the split of the eight places (R153). -/
def Board.share (b : Board) (g : Nat) : Nat :=
  if b.groupMask g = 0 then 0
  else
    match bearing b.groups with
    | 1 => 8
    | 2 => 4
    | 3 => if bearing (b.groups.take g) < 2 then 3 else 2
    | _ => 2

/-! ## Candidates (R154) -/

/-- The key order: S_d, then train number (R153). -/
def Member.before (a b : Member) : Bool :=
  decide (a.schedDep < b.schedDep) || (a.schedDep == b.schedDep && decide (a.train < b.train))

/-- Whether an entry's state lets it be listed: running states, or CANCELLED while S_d + 300 has not passed (R154). -/
def Entry.listable (n : Int) (e : Entry) (c : CallRec) : Bool :=
  match e.state with
  | .expected | .running | .approaching | .atHalt => true
  | .cancelled => decide (n ≤ (c.schedDep : Int) + 300)
  | .departed | .passed => false

/-- The running entry of today of a train (R154). -/
def Device.todayEntry? (d : Device) (t : Nat) : Option Entry :=
  d.table.entries.find? (fun e => e.train == t && e.date == d.today)

/-- The member an entry makes in the list of a group with platform mask `m`, if it is a candidate (R154). -/
def Device.entryCandidate (d : Device) (m : BitVec 4) (e : Entry) : Option Member :=
  match e.held with
  | none => none
  | some h =>
    if e.date = d.today ∧ h.call.kind ≠ .pass ∧ covers m h.call.platform ∧ e.listable (d.entryTime e) h.call then
      some { train := e.train, schedDep := h.call.schedDep }
    else none

/-- The member a day-list call makes in such a list, if it is a candidate (R154). -/
def Device.callCandidate (d : Device) (m : BitVec 4) (h : HeldCall) : Option Member :=
  if h.call.kind ≠ .pass ∧ covers m h.call.platform ∧ d.now ≤ h.call.schedDep + 300
      ∧ (d.todayEntry? h.call.train).isNone ∧ h.call.train ∉ d.board.finished then
    some { train := h.call.train, schedDep := h.call.schedDep }
  else none

/-- The candidates of a group's list, in key order (R154). -/
def Device.candidates (d : Device) (g : Nat) : List Member :=
  sortBy Member.before
    (d.table.entries.filterMap (d.entryCandidate (d.board.groupMask g))
      ++ (d.tt.dayList d.today).filterMap (d.callCandidate (d.board.groupMask g)))

/-- Whether a train is a candidate of a group's list. -/
def Device.isCandidate (d : Device) (g t : Nat) : Bool := (d.candidates g).any (fun c => c.train == t)

/-! ## Lists (R156, R157) -/

/-- The list of group `g`. -/
def Board.list (b : Board) (g : Nat) : List Member := b.lists.getD g []

/-- Whether a list holds a train. -/
def holds (l : List Member) (t : Nat) : Bool := l.any (fun m => m.train == t)

/-- Whether any list holds a train (R162). -/
def Board.lists_hold (b : Board) (t : Nat) : Bool := b.lists.any (fun l => holds l t)

/-- A rebuilt list: the candidates of lowest key, up to the share (R156). -/
def Device.rebuilt (d : Device) (g : Nat) : List Member := (d.candidates g).take (d.board.share g)

/-- A list after a train leaves it, with the place refilled from the candidates given (R157). -/
def leaveRefill (cands : List Member) (t : Nat) (l : List Member) : List Member :=
  match l.find? (fun m => m.train == t) with
  | none => l
  | some gone =>
    let rest := l.filter (fun m => m.train != t)
    let key := rest.getLast?.getD gone
    match cands.find? (fun c => key.before c && !holds rest c.train) with
    | none => rest
    | some c => rest ++ [c]

/-- A list after every member that is no longer a candidate has left it, one after another in list order (R157, R158). A member
is judged by its train number and keeps the key it was listed with, whichever call of the train runs today: DESIGN CHOICE
(log 43). -/
def Device.pruned (d : Device) (g : Nat) : List Member :=
  ((d.board.list g).filter (fun m => !d.isCandidate g m.train)).foldl
    (fun l m => leaveRefill (d.candidates g) m.train l) (d.board.list g)

/-- The groups, in group order. -/
def groupIds : List Nat := [0, 1, 2, 3]

/-- Writes new lists, one for each group. -/
def Device.setLists (ls : List (List Member)) (d : Device) : Device := { d with board := { d.board with lists := ls } }

/-! ## Composition (R159 to R161, R169) -/

/-- The routing of R169 for a screen: enabled, not in FAULT, and in a group of the target. -/
def Screen.reached (s : Screen) (target : BitVec 4) : Bool := s.enabled && s.health == .ok && (s.groups &&& target) != 0

/-- Whether a stored notice is routed to a screen (R169). -/
def Notice.routed (n : Notice) (s : Screen) : Bool := n.shown && n.inWindow && s.reached n.target

/-- The stored notices of one form and priority routed to a screen, by ascending number. -/
def NoticeStore.routedOf (ns : NoticeStore) (f : NoticeForm) (p : Nat) (s : Screen) : List TickerEntry :=
  (ns.items.filter (fun n => n.form == f && n.priority == p && n.routed s)).map
    (fun n => .stored n.number n.priority n.text)

/-- The system notices that are up and routed to a screen: SN1 targets G0, SN2 and SN3 every group (R168, R169). -/
def NoticeStore.routedSystem (ns : NoticeStore) (s : Screen) : List TickerEntry :=
  (if ns.sn1 && s.reached 1 then [.system 1] else [])
    ++ (if ns.sn2 && s.reached 15 then [.system 2] else [])
    ++ (if ns.sn3 && s.reached 15 then [.system 3] else [])

/-- The ticker of a screen: by priority from 3 down, system notices first, the first six (R161). -/
def NoticeStore.tickerFor (ns : NoticeStore) (s : Screen) : List TickerEntry :=
  (ns.routedSystem s ++ ns.routedOf .ticker 3 s ++ ns.routedOf .ticker 2 s ++ ns.routedOf .ticker 1 s
    ++ ns.routedOf .ticker 0 s).take 6

/-- The takeover of a screen: the PAGE-form notice of highest priority, lowest number first (R161). -/
def NoticeStore.takeoverFor (ns : NoticeStore) (s : Screen) : Option TickerEntry :=
  (ns.routedOf .page 3 s ++ ns.routedOf .page 2 s ++ ns.routedOf .page 1 s ++ ns.routedOf .page 0 s).head?

/-- The departure-bearing groups of a screen (R159). -/
def Device.bearingGroups (d : Device) (s : Screen) : List Nat :=
  groupIds.filter (fun g => s.groups.getLsbD g && d.board.groupMask g != 0)

/-- The members of a screen's lists, merged into key order, a train once (R159). A train that two lists hold under different keys
stands where its lower key puts it: DESIGN CHOICE (log 43). -/
def Device.mergedMembers (d : Device) (s : Screen) : List Member :=
  (sortBy Member.before ((d.bearingGroups s).flatMap d.board.list)).foldl
    (fun acc m => if holds acc m.train then acc else acc ++ [m]) []

/-- The row of a member: from its entry of today, or from its day-list call (R160). A member with neither has no row, and one
whose entry of today holds no call has the row of its day-list call, or none: DESIGN CHOICE (log 28). -/
def Device.memberRow (d : Device) (m : Member) : Option Row :=
  match (d.todayEntry? m.train).bind (fun e => e.held.map (fun h => (e, h))) with
  | some (e, h) => some (e.row d.clock.state (d.entryTime e) h)
  | none => (d.tt.lookup d.today m.train).map (fun h => h.row d.clock.state d.halt.dwell d.now)

/-- The rows, or the line that stands for them (R159). -/
def Device.rowsPart (d : Device) (s : Screen) : PageBody :=
  if (d.bearingGroups s).isEmpty then .none
  else if (d.mergedMembers s).isEmpty then .noTrains
  else .rows ((d.mergedMembers s).filterMap d.memberRow)

/-- The page of a screen (R159). -/
def Device.composePage (d : Device) (s : Screen) : Page :=
  if !s.enabled then .blankPage
  else
    { blank := false
      clockMinute := if d.clock.state = .unset then none else some (clockMinute (d.now / 60))
      haltName := d.halt.name
      body := match d.notices.takeoverFor s with
        | some t => .takeover t
        | none => d.rowsPart s
      ticker := d.notices.tickerFor s }

/-- A screen after a recompose: a page that differs takes the next page sequence number (R162). -/
def Device.recomposed (d : Device) (s : Screen) : Screen :=
  if d.composePage s = s.page then s else { s with page := d.composePage s, seq := s.seq + 1 }

/-- A recompose of every page; PAGE_CHANGED is set when a page differs (R162). -/
def Device.recompose (d : Device) : Device :=
  { d with board := { d.board with screens := d.board.screens.map d.recomposed } }.setFlagIf
    (d.board.screens.any (fun s => d.composePage s != s.page)) .pageChanged

/-- A recompose of one screen's page (R151, R162). -/
def Device.recomposeOne (k : Nat) (d : Device) : Device :=
  { d with board := { d.board with screens := d.board.screens.modify k d.recomposed } }.setFlagIf
    ((d.board.screens[k]?).any (fun s => d.composePage s != s.page)) .pageChanged

/-- A rebuild of every list and the recompose that follows it (R156). -/
def Device.rebuildAll (d : Device) : Device := (d.setLists (groupIds.map d.rebuilt)).recompose

/-- The recompose that a forecast notice or stop notice of a train causes: when a list holds the train (R162). -/
def Device.recomposeFor (t : Nat) (d : Device) : Device := d.when (d.board.lists_hold t) Device.recompose

/-! ## Entry notices and ticks (R155, R158) -/

/-- The finished set after a REMOVED notice (R155). -/
def Device.finishedAfter (d : Device) (n : EntryNotice) : List Nat :=
  if n.date = d.today ∧ (n.stateAfter = .departed ∨ n.stateAfter = .passed ∨ n.stateAfter = .cancelled)
      ∧ (d.tt.lookup d.today n.train).isSome ∧ n.train ∉ d.board.finished ∧ d.board.finished.length < 96 then
    d.board.finished ++ [n.train]
  else d.board.finished

/-- What one group's list becomes at an entry notice, and whether it was rebuilt (R158). -/
def Device.listAtNotice (d : Device) (n : EntryNotice) (g : Nat) : List Member × Bool :=
  let leave := leaveRefill (d.candidates g) n.train (d.board.list g)
  match n.cause with
  | .removed => (leave, false)
  | .platform former new =>
    if covers (d.board.groupMask g) former || covers (d.board.groupMask g) new then (d.rebuilt g, true)
    else (d.board.list g, false)
  | .entered | .report | .cancel | .reinstate =>
    if n.cause = .report ∧ (n.stateAfter = .departed ∨ n.stateAfter = .passed) then (leave, false)
    else if holds (d.board.list g) n.train then
      (if d.isCandidate g n.train then d.board.list g else leave, false)
    else if d.isCandidate g n.train then (d.rebuilt g, true)
    else (d.board.list g, false)

/-- Whether an entry notice causes a recompose: a list changed or was rebuilt, or a list holds the train (R162). -/
def Device.noticeRecomposes (d : Device) (n : EntryNotice) : Bool :=
  d.board.lists_hold n.train || groupIds.any (fun g => (d.listAtNotice n g).2)

/-- The Board Composer takes an entry notice: the finished set first, then the lists, then the pages (R155, R158, R162). -/
def Device.boardNotice (n : EntryNotice) (d : Device) : Device :=
  let d1 := if n.cause = .removed then { d with board := { d.board with finished := d.finishedAfter n } } else d
  (d1.setLists (groupIds.map (fun g => (d1.listAtNotice n g).1))).when (d1.noticeRecomposes n) Device.recompose

/-- The Board Composer takes a minute tick (R158, R162). -/
def Device.boardMinute (d : Device) : Device := (d.setLists (groupIds.map d.pruned)).recompose

/-- The Board Composer takes a day boundary: the finished set is cleared and every list rebuilt (R155, R156). -/
def Device.boardDay (d : Device) : Device := { d with board := { d.board with finished := [] } }.rebuildAll

/-! ## Commands (R151, R152) -/

def setScreenFields (enabled : Bool) (groups : BitVec 4) (s : Screen) : Screen := { s with enabled := enabled, groups := groups }

/-- Changes one screen's settings or health. -/
def Device.modifyScreen (k : Nat) (f : Screen → Screen) (d : Device) : Device :=
  { d with board := { d.board with screens := d.board.screens.modify k f } }

/-- Writes one group's platform mask. -/
def Device.setGroupMask (g : Nat) (m : BitVec 4) (d : Device) : Device :=
  { d with board := { d.board with groups := d.board.groups.set g m } }

/-- SET_SCREEN (R151). -/
def runSetScreen (ps : List Byte) (d : Device) : Device × Reply :=
  if !isFlagByte (byteAt ps 1) || decide (15 < byteAt ps 2) || decide (5 < byteAt ps 0) then (d, .badParam [])
  else
    ((d.modifyScreen (byteAt ps 0)
        (setScreenFields (byteAt ps 1 == 1) (BitVec.ofNat 4 (byteAt ps 2)))).rebuildAll, .ok [])

/-- SET_GROUP (R152). -/
def runSetGroup (ps : List Byte) (d : Device) : Device × Reply :=
  if 15 < byteAt ps 1 ∨ 3 < byteAt ps 0 then (d, .badParam [])
  else ((d.setGroupMask (byteAt ps 0) (BitVec.ofNat 4 (byteAt ps 1))).rebuildAll, .ok [])

/-- REPORT_SCREEN (R151): a change of health recomposes that screen's page. -/
def runReportScreen (ps : List Byte) (d : Device) : Device × Reply :=
  match Health.ofCode (byteAt ps 1) with
  | none => (d, .badParam [])
  | some h =>
    if 5 < byteAt ps 0 then (d, .badParam [])
    else if (d.board.screens[byteAt ps 0]?).any (fun s => s.health == h) then (d, .ok [])
    else ((d.modifyScreen (byteAt ps 0) (fun s => { s with health := h })).recomposeOne (byteAt ps 0), .ok [])

end Sys2Proof.Machine
end

