-- ==== Sys2Proof/Machine/ForecastUnit.lean ====
section
/-!
DEFINITION. The Forecast Unit at work on the running table (R76, R86, R87): which entries it recomputes at each event, the
DELAYED cue and the forecast notice.
-/

namespace Sys2Proof.Machine

/-- The platform of an entry's held call. -/
def Entry.platform (e : Entry) : Option Nat := e.held.map (fun h => h.call.platform)

/-- What a recompute of an entry gives at this moment (R76, R77). -/
def Device.recomputeResult (d : Device) (tick : Bool) (e : Entry) : Entry × Bool :=
  e.recompute d.halt.dwell d.halt.early (d.entryTime e) tick

/-- Recomputes the entry of a train if it is in scope: the entry takes its new forecast, a DELAYED cue is handed on, and a
change hands a forecast notice to the Board Composer (R76, R86, R87). -/
def Device.recomputeTrain (tick : Bool) (t : Nat) (d : Device) : Device :=
  match d.entry? t with
  | none => d
  | some e =>
    if e.inScope d.clock.state then
      (((d.updateEntry t (fun _ => (d.recomputeResult tick e).1)).when (d.recomputeResult tick e).2
        (Device.trainCue .delayed t e.platform 1))).when ((d.recomputeResult tick e).1 != e) (Device.recomposeFor t)
    else d

/-- Recomputes every entry in scope, in an order the spec leaves open (R76). -/
def Device.recomputeEvery (tick : Bool) (d : Device) : Device :=
  d.forAll (d.table.entries.map Entry.train) (Device.recomputeTrain tick)

/-- The Forecast Unit takes an entry notice (R76). -/
def Device.forecastNotice (n : EntryNotice) (d : Device) : Device :=
  match n.cause with
  | .entered | .report | .reinstate => d.recomputeTrain false n.train
  | .cancel | .platform _ _ | .removed => d

/-- The Forecast Unit takes a minute tick (R76, R82). -/
def Device.forecastMinute (d : Device) : Device := d.recomputeEvery true

end Sys2Proof.Machine
end

