-- ==== Sys2Proof/Machine/Notices.lean ====
section
/-!
DEFINITION. The Notice Store (R163 to R169, R172): admission, replacement, showing and hiding, windows and expiry, the
system notices, and NOTICE cues.
-/

namespace Sys2Proof.Machine

/-! ## Windows (R167) -/

/-- One moment lies before another: by date first and then by second (R167, R21). -/
def Moment.before (a b : Moment) : Bool :=
  decide (dateDiff a.date b.date < 0) || (a.date == b.date && decide (a.second < b.second))

/-- Now, as the Notice Store reads it (R167). -/
def Device.moment (d : Device) : Moment := { date := d.today, second := d.now }

/-- Whether a notice's show-until has passed (R167). -/
def Notice.expired (now : Moment) (n : Notice) : Bool := n.showUntil.any (fun u => u.before now)

/-- Whether a notice is in window (R167). -/
def Notice.windowOpen (now : Moment) (n : Notice) : Bool :=
  !(n.showFrom.any (fun f => now.before f)) && !n.expired now

/-- A notice with its in-window flag judged (R167). -/
def Notice.judged (now : Moment) (n : Notice) : Notice := { n with inWindow := n.windowOpen now }

/-! ## The store (R163, R165) -/

/-- The number of notice blocks (R137). -/
def Journal.noticeBlocks (j : Journal) : Nat := 64 - j.partition

/-- The free notice blocks (R163). -/
def Device.freeBlocks (d : Device) : Nat := d.journal.noticeBlocks - d.notices.items.length

/-- The stored notice of a number. -/
def NoticeStore.find? (ns : NoticeStore) (k : Nat) : Option Notice := ns.items.find? (fun n => n.number == k)

/-- The notices without the one of a number. -/
def NoticeStore.without (ns : NoticeStore) (k : Nat) : List Notice := ns.items.filter (fun n => n.number != k)

/-- The notices with one put in its place by number, in place of any of the same number. -/
def NoticeStore.put (ns : NoticeStore) (n : Notice) : List Notice :=
  insertBy (fun a b => decide (a.number < b.number)) n (ns.without n.number)

/-- The free blocks an admission needs by priority (R165). -/
def blocksNeeded : Nat → Nat
  | 3 => 1
  | 2 => 2
  | 1 => 3
  | _ => 5

/-- Writes the stored notices. -/
def Device.setNotices (l : List Notice) (d : Device) : Device := { d with notices := { d.notices with items := l } }

/-- Offers the NOTICE cue of a notice (R172). -/
def Device.noticeCue (n : Notice) (d : Device) : Device :=
  d.offerCue { kind := .notice, train := none, platform := none, notice := some n.number, priority := n.priority,
               second := d.now }

/-- Whether a notice that becomes shown and in window raises a NOTICE cue (R172). -/
def Notice.announces (n : Notice) : Bool := n.announce && n.shown && n.inWindow

/-! ## Shown flags (R166) -/

/-- A CANNED notice's shown flag set as asked; a notice change only when the flag changes (R166, R169, R172). -/
def Device.setShown (n : Notice) (b : Bool) (d : Device) : Device :=
  if n.shown = b then d
  else
    (((d.setNotices (d.notices.items.map (fun x => if x.number == n.number then { x with shown := b } else x))).recompose).when
      ({ n with shown := b } : Notice).announces (Device.noticeCue n))

/-- Shows or hides the CANNED notice of a number, if there is one (R166). -/
def Device.showCanned (k : Nat) (b : Bool) (d : Device) : Device :=
  match d.notices.find? k with
  | none => d
  | some n => if n.kind = .canned then d.setShown n b else d

/-- An accepted LINENOTICE: number, and 1 for show or 2 for hide (R166, R203). -/
def Device.lineNotice (data : List Byte) (d : Device) : Device :=
  if byteAt data 1 = 1 then d.showCanned (byteAt data 0) true
  else if byteAt data 1 = 2 then d.showCanned (byteAt data 0) false
  else d

/-- SHOW_NOTICE and HIDE_NOTICE (R166). -/
def showOrHide (b : Bool) (ps : List Byte) (d : Device) : Device × Reply :=
  match d.notices.find? (byteAt ps 0) with
  | none => (d, .badParam [])
  | some n => if n.kind = .canned then (d.setShown n b, .ok []) else (d, .badParam [])

/-! ## Minute tick (R167) -/

/-- The stored notices after a minute tick: the expired removed, the rest judged (R167). -/
def Device.noticesJudged (d : Device) : List Notice :=
  (d.notices.items.filter (fun n => !n.expired d.moment)).map (Notice.judged d.moment)

/-- The notices that a minute tick brings into window while they are shown, and that announce (R172). -/
def Device.noticesEntering (d : Device) : List Notice :=
  ((d.notices.items.filter (fun n => !n.expired d.moment && !n.inWindow)).map (Notice.judged d.moment)).filter Notice.announces

/-- The Notice Store takes a minute tick (R167, R169, R172). -/
def Device.noticeMinute (d : Device) : Device :=
  ((d.setNotices d.noticesJudged).when (d.noticesJudged != d.notices.items) Device.recompose).forAll d.noticesEntering
    Device.noticeCue

/-! ## System notices (R168) -/

/-- SN1 goes up or down. -/
def Device.setSn1 (up : Bool) (d : Device) : Device :=
  ({ d with notices := { d.notices with sn1 := up } } : Device).when (d.notices.sn1 != up) Device.recompose

/-- SN2 goes up or down. -/
def Device.setSn2 (up : Bool) (d : Device) : Device :=
  ({ d with notices := { d.notices with sn2 := up } } : Device).when (d.notices.sn2 != up) Device.recompose

/-- SN3 goes up or down. -/
def Device.setSn3 (up : Bool) (d : Device) : Device :=
  ({ d with notices := { d.notices with sn3 := up } } : Device).when (d.notices.sn3 != up) Device.recompose

/-! ## PUT_NOTICE and REMOVE_NOTICE (R164, R165, R167) -/

/-- A show-from or show-until as sent: absent when its date and its second both have all bits set (R202): DEDUCED (log 44). -/
def momentAt (ps : List Byte) (i : Nat) : Option Moment :=
  if u16At ps i = 65535 ∧ u24At ps (i + 2) = 16777215 then none
  else some { date := BitVec.ofNat 16 (u16At ps i), second := u24At ps (i + 2) }

/-- A moment whose second lies in range, or none (R164). -/
def momentOk (m : Option Moment) : Bool := m.all (fun x => decide (x.second ≤ 86399))

/-- A show-until lies later than a show-from present beside it (R164). -/
def windowOk (f u : Option Moment) : Bool :=
  match f, u with
  | some a, some b => a.before b
  | _, _ => true

/-- The range checks of PUT_NOTICE on its gathered parameters (R164, R189). -/
def putNoticeOk (ps : List Byte) : Bool :=
  byteAt ps 0 != 0 && (NoticeKind.ofCode (byteAt ps 1)).isSome && decide (byteAt ps 2 ≤ 3) && decide (byteAt ps 3 ≤ 15)
    && (NoticeForm.ofCode (byteAt ps 4)).isSome && isFlagByte (byteAt ps 5) && momentOk (momentAt ps 6)
    && momentOk (momentAt ps 11) && windowOk (momentAt ps 6) (momentAt ps 11) && textOk 120 (textAt ps 16)

/-- The shown flag of a new or replacing notice: set for OFFICE; for CANNED, that of a CANNED notice it replaces (R164). -/
def shownOnPut (kind : NoticeKind) (old : Option Notice) : Bool :=
  match kind with
  | .office => true
  | .canned => old.any (fun n => n.kind == .canned && n.shown)

/-- The notice that PUT_NOTICE carries, in window judged at once (R164, R167). -/
def Device.noticeFrom (d : Device) (ps : List Byte) : Notice :=
  Notice.judged d.moment
    { number := byteAt ps 0, kind := (NoticeKind.ofCode (byteAt ps 1)).getD .office, priority := byteAt ps 2,
      target := BitVec.ofNat 4 (byteAt ps 3), form := (NoticeForm.ofCode (byteAt ps 4)).getD .ticker,
      announce := byteAt ps 5 == 1, text := textAt ps 16, showFrom := momentAt ps 6, showUntil := momentAt ps 11,
      shown := shownOnPut ((NoticeKind.ofCode (byteAt ps 1)).getD .office) (d.notices.find? (byteAt ps 0)),
      inWindow := false }

/-- Stores a notice, new or replacing, with the notice change and the NOTICE cue it causes (R164, R169, R172). -/
def Device.storeNotice (n : Notice) (d : Device) : Device :=
  ((d.setNotices (d.notices.put n)).recompose).when n.announces (Device.noticeCue n)

/-- PUT_NOTICE on its gathered parameters: range checks, replacement or admission (R164, R165). -/
def runPutNotice (ps : List Byte) (d : Device) : Device × Reply :=
  if !putNoticeOk ps then (d, .badParam [])
  else
    match d.notices.find? (byteAt ps 0) with
    | some _ => (d.storeNotice (d.noticeFrom ps), .ok [])
    | none =>
      if d.freeBlocks < blocksNeeded (byteAt ps 2) then (d, .refused .storeFull (be8 d.freeBlocks))
      else (d.storeNotice (d.noticeFrom ps), .ok (be8 (d.freeBlocks - 1)))

/-- REMOVE_NOTICE (R167). -/
def runRemoveNotice (ps : List Byte) (d : Device) : Device × Reply :=
  match d.notices.find? (byteAt ps 0) with
  | none => (d, .badParam [])
  | some _ => ((d.setNotices (d.notices.without (byteAt ps 0))).recompose, .ok [])

end Sys2Proof.Machine
end

