-- ==== Sys2Proof/Machine/Journal.lean ====
section
/-!
DEFINITION. The Journal and Record Store (R137 to R148) and the sales state that follows it (R134, R135): records and
their chain, serials, appending, partition, upload and release.
-/

namespace Sys2Proof.Machine

/-! ## Counts and serial state (R139, R142) -/

def Journal.occupied (j : Journal) : Nat := j.records.length

def Journal.free (j : Journal) : Nat := 8 * j.partition - j.records.length

inductive SerialState where
  | unset
  | set
  | spent
deriving DecidableEq, Repr

/-- The serial state follows the next serial (R142). -/
def Journal.serialState (j : Journal) : SerialState :=
  match j.nextSerial with
  | none => .unset
  | some n => if n ≤ 16777214 then .set else .spent

def SerialState.code : SerialState → Nat
  | .unset => 1
  | .set => 2
  | .spent => 3

/-! ## Sales state (R134, R135) -/

/-- The sales state that the inputs give: the first condition of R134 that holds. -/
def Device.salesStateNow (d : Device) : SalesState :=
  if d.sale.closedFlag ∨ d.clock.state = .unset ∨ d.fares.active.state = .empty ∨ d.journal.serialState ≠ .set then .closed
  else if d.journal.free ≤ 2 then .suspended
  else if d.journal.free ≤ d.halt.reserve then .restricted
  else .isOpen

/-- SN1 is up while the sales state is SUSPENDED or CLOSED (R168). -/
def SalesState.stops : SalesState → Bool
  | .closed | .suspended => true
  | .restricted | .isOpen => false

/-- The sales state evaluated afresh; a change sets SALES_STATE_CHANGED and is handed to the Notice Store (R134, R135). -/
def Device.evalSales (d : Device) : Device :=
  (({ d with sale := { d.sale with state := d.salesStateNow } } : Device).setFlagIf
    (d.sale.state != d.salesStateNow) .salesStateChanged).when (d.sale.state != d.salesStateNow)
      (Device.setSn1 d.salesStateNow.stops)

/-! ## Records (R140, R141, R203) -/

/-- Bytes 1 to 21 of a record as READ_JOURNAL lays it out (R203). -/
def recordBytes (serial : Nat) (date : Date) (second : Nat) (b : RecordBody) : List Byte :=
  match b with
  | .sale f =>
    be24 serial ++ be8 1 ++ be16 date.toNat ++ be24 second ++ be16 f.destCode ++ be8 f.type.code ++ be8 f.cls.code
      ++ be8 f.count ++ be24 f.price ++ be8 f.pay.code ++ be16Or0 f.train ++ be8 f.generation.toNat
  | .void v => be24 serial ++ be8 2 ++ be16 date.toNat ++ be24 second ++ be24 v ++ List.replicate 9 0

/-- A record's 23 bytes (R203). -/
def JournalRec.bytes (r : JournalRec) : List Byte :=
  recordBytes r.serial r.date r.second r.body ++ be16 r.chain.toNat

/-- The chain value the next record is chained from: that of the newest record held, or the anchor (R141). -/
def Journal.link (j : Journal) : BitVec 16 := (j.records.getLast?.map JournalRec.chain).getD j.anchor

/-- The next record (R140, R141, R142). -/
def Journal.nextRecord (j : Journal) (serial : Nat) (date : Date) (second : Nat) (b : RecordBody) : JournalRec :=
  { serial := serial, date := date, second := second, body := b,
    chain := crc16 j.link (recordBytes serial date second b) }

/-- The journal after an append with the serial given (R142, R144). -/
def Journal.append (j : Journal) (serial : Nat) (date : Date) (second : Nat) (b : RecordBody) : Journal :=
  { j with records := j.records ++ [j.nextRecord serial date second b], nextSerial := some (serial + 1),
           highest := some serial }

/-- Whether the journal takes a SALE record: the serial state is SET and at least 2 places are free (R144). -/
def Journal.takesSale (j : Journal) : Bool := j.serialState == .set && decide (2 ≤ j.free)

/-- Whether the journal takes a VOID record: a serial is left and a place is free (R145). -/
def Journal.takesVoid (j : Journal) : Bool :=
  j.nextSerial.any (fun n => n != 16777216) && decide (1 ≤ j.free)

/-- Sets JOURNAL_MARK when the occupied count is at or above the upload mark (R146). -/
def Device.markJournal (d : Device) : Device := d.setFlagIf (decide (d.halt.uploadMark ≤ d.journal.occupied)) .journalMark

/-- Writes the journal. -/
def Device.setJournal (j : Journal) (d : Device) : Device := { d with journal := j }

/-- Appends a record under the next serial, then has the sales state evaluated and the upload mark tested (R144 to R146). -/
def Device.appendRecord (serial : Nat) (b : RecordBody) (d : Device) : Device :=
  ((d.setJournal (d.journal.append serial d.today d.now b)).evalSales).markJournal

/-! ## Serial base and partition (R138, R143) -/

/-- SET_SERIAL_BASE (R143). -/
def runSetSerialBase (ps : List Byte) (d : Device) : Device × Reply :=
  let s := u24At ps 0
  if s = 0 ∨ 16777214 < s then (d, .badParam [])
  else if d.journal.highest.any (fun h => decide (s ≤ h)) then (d, .badParam (be24? d.journal.highest))
  else if d.journal.records ≠ [] then (d, .refused .busy [])
  else ((d.setJournal { d.journal with nextSerial := some s }).evalSales, .ok [])

/-- The data of a SET_PARTITION response (R138). The free notice blocks take 1 byte: DESIGN CHOICE (log 15). -/
def Device.partitionData (d : Device) : List Byte := be8 d.journal.partition ++ be16 d.journal.free ++ be8 d.freeBlocks

/-- SET_PARTITION (R138). A J' equal to J is answered with the same data: DESIGN CHOICE (log 42). -/
def runSetPartition (ps : List Byte) (d : Device) : Device × Reply :=
  let j := byteAt ps 0
  if j < 16 ∨ 56 < j then (d, .badParam [])
  else if j = d.journal.partition then (d, .ok d.partitionData)
  else if d.journal.records ≠ [] ∨ 64 - j < d.notices.items.length then (d, .refused .busy [])
  else
    let d' := (d.setJournal { d.journal with partition := j }).evalSales
    (d', .ok d'.partitionData)

/-! ## Upload and release (R147, R148) -/

/-- The serial of the tail (R147). -/
def Journal.newest (j : Journal) : Option Nat := j.records.getLast?.map JournalRec.serial

/-- The serial of the head (R148). -/
def Journal.oldest (j : Journal) : Option Nat := j.records.head?.map JournalRec.serial

/-- The chain value of the newest of some records, or the anchor when there is none (R141, R147, R148). -/
def Journal.chainAfter (j : Journal) (rs : List JournalRec) : BitVec 16 := (rs.getLast?.map JournalRec.chain).getD j.anchor

/-- The records below a serial. -/
def Journal.below (j : Journal) (s : Nat) : List JournalRec := j.records.filter (fun r => decide (r.serial < s))

/-- The records at or above a serial. -/
def Journal.from (j : Journal) (s : Nat) : List JournalRec := j.records.filter (fun r => decide (s ≤ r.serial))

/-- READ_JOURNAL (R147, R203): it changes nothing. -/
def runReadJournal (ps : List Byte) (d : Device) : Device × Reply :=
  let rs := d.journal.from (u24At ps 0)
  let out := rs.take 4
  (d, .ok (be8 out.length ++ be16 (d.journal.chainAfter (d.journal.below (u24At ps 0))).toNat ++ beFlag (decide (4 < rs.length))
    ++ be16 d.journal.occupied ++ be16 d.journal.free ++ be24? d.journal.newest ++ out.flatMap JournalRec.bytes))

/-- The journal after a release up to a serial (R148). -/
def Journal.released (j : Journal) (upTo : Nat) : Journal :=
  { j with records := j.from (upTo + 1), anchor := j.chainAfter (j.below (upTo + 1)) }

/-- RELEASE (R148). The number removed takes 2 bytes: DESIGN CHOICE (log 15). -/
def runRelease (ps : List Byte) (d : Device) : Device × Reply :=
  let upTo := u24At ps 0
  if 1 ≤ upTo ∧ d.journal.newest.all (fun n => decide (n < upTo)) then (d, .badParam (be24? d.journal.newest))
  else
    let j := d.journal.released upTo
    ((d.setJournal j).evalSales,
      .ok (be16 (d.journal.occupied - j.occupied) ++ be16 j.occupied ++ be16 j.free ++ be24? j.oldest
        ++ be16 j.anchor.toNat))

/-! ## The sales-closed flag (R135) -/

def Device.setClosedFlag (b : Bool) (d : Device) : Device := { d with sale := { d.sale with closedFlag := b } }

/-- CLOSE_SALES and OPEN_SALES: the flag, the evaluation, and the sales state after the command (R135). -/
def closeOrOpen (b : Bool) (d : Device) : Device × Reply :=
  ((d.setClosedFlag b).evalSales, .ok (be8 (d.setClosedFlag b).evalSales.sale.state.code))

end Sys2Proof.Machine
end

