-- ==== Sys2Proof/Machine/Line.lean ====
section
/-!
DEFINITION. The Line Interface's own state (R33 to R37, R41 to R46, R48, R49): filtering, transmit slots, the transmitter
and the failure count. What follows in the other blocks is in Machine/Stop.lean and Machine/Frames.lean.
-/

namespace Sys2Proof.Machine

/-! ## Filtering (R33, R36) -/

/-- The 29-bit identifier of a frame (R33, R203). -/
def LineFrame.ident (f : LineFrame) : BitVec 29 := f.kind ++ (f.train ++ f.point)

/-- An enabled filter whose compared bits agree (R35, R36). -/
def Filter.hits (x : Filter) (ident : BitVec 29) : Bool := x.enabled && (ident &&& x.mask) == (x.code &&& x.mask)

/-- The lowest-numbered filter that matches, counted from `k` (R36). -/
def firstHit (ident : BitVec 29) (k : Nat) : List Filter → Option (Nat × FilterAction)
  | [] => none
  | x :: xs => if x.hits ident then some (k, x.action) else firstHit ident (k + 1) xs

/-- Whether a frame is accepted (R36). -/
def Line.accepts (l : Line) (ident : BitVec 29) : Bool :=
  match firstHit ident 0 l.filters with
  | some (_, a) => a == .accept
  | none => l.defaultAction == .accept

/-- The last hit after an arrival (R36). -/
def Line.hitOf (l : Line) (ident : BitVec 29) : Option Nat := (firstHit ident 0 l.filters).map Prod.fst

/-! ## SET_FILTER (R37) -/

/-- Writes one filter, or for number 8 the action of the default (R37). -/
def Line.setFilter (l : Line) (k : Nat) (x : Filter) : Line :=
  if k = 8 then { l with defaultAction := x.action } else { l with filters := l.filters.set k x }

/-- Writes the Line Interface's state. -/
def Device.setLine (l : Line) (d : Device) : Device := { d with line := l }

/-- The filter that SET_FILTER carries (R37, R204). -/
def filterFrom (ps : List Byte) (a : FilterAction) : Filter :=
  { enabled := byteAt ps 1 == 1, code := BitVec.ofNat 29 (u32At ps 2), mask := BitVec.ofNat 29 (u32At ps 6), action := a }

/-- SET_FILTER: filters 0 to 7, and 8 for the default action (R37). -/
def runSetFilter (ps : List Byte) (d : Device) : Device × Reply :=
  match FilterAction.ofCode (byteAt ps 10) with
  | none => (d, .badParam [])
  | some a =>
    if !isFlagByte (byteAt ps 1) || decide (8 < byteAt ps 0) || decide (536870911 < u32At ps 2)
        || decide (536870911 < u32At ps 6) then (d, .badParam [])
    else (d.setLine (d.line.setFilter (byteAt ps 0) (filterFrom ps a)), .ok [])

/-! ## Slots (R41, R42, R48) -/

def Line.slot (l : Line) : SlotId → Option TxFrame
  | .s0 => l.slot0
  | .s1 => l.slot1

def Line.setSlot (l : Line) (k : SlotId) (x : Option TxFrame) : Line :=
  match k with
  | .s0 => { l with slot0 := x }
  | .s1 => { l with slot1 := x }

/-- A QUEUED slot that holds a train. -/
def slotHolds (t : Nat) (x : Option TxFrame) : Bool := x.any (fun f => f.train == t)

/-- The frame of a slot is no longer the later of two. -/
def notLater (x : Option TxFrame) : Option TxFrame := x.map (fun f => { f with later := false })

/-- The answers to an ask to queue (R42). -/
inductive AskAnswer where
  | refusedLineDown
  | refusedTrainHeld
  | refusedNoSlot
  | queued (k : SlotId)
deriving DecidableEq, Repr

/-- The answer to an ask for a train (R42). -/
def Line.answer (l : Line) (t : Nat) : AskAnswer :=
  if l.state = .down then .refusedLineDown
  else if slotHolds t l.slot0 || slotHolds t l.slot1 then .refusedTrainHeld
  else if l.slot0.isNone then .queued .s0
  else if l.slot1.isNone then .queued .s1
  else .refusedNoSlot

/-- The Line Interface after an ask: the frame is fixed at queuing (R42). -/
def Line.ask (l : Line) (t point waiting : Nat) : Line :=
  match l.answer t with
  | .queued .s0 =>
    { l with slot0 := some { train := t, point := point, waiting := waiting, failed := 0, begun := false,
                             later := l.slot1.isSome },
             slot1 := notLater l.slot1 }
  | .queued .s1 =>
    { l with slot1 := some { train := t, point := point, waiting := waiting, failed := 0, begun := false,
                             later := l.slot0.isSome },
             slot0 := notLater l.slot0 }
  | .refusedLineDown | .refusedTrainHeld | .refusedNoSlot => l

/-- The answers to a withdrawal (R48). -/
inductive WithdrawAnswer where
  | notHeld
  | withdrawn
  | tooLate
deriving DecidableEq, Repr

/-- The slot that holds a train. -/
def Line.slotOf (l : Line) (t : Nat) : Option SlotId :=
  if slotHolds t l.slot0 then some .s0 else if slotHolds t l.slot1 then some .s1 else none

/-- The answer to a withdrawal (R48). -/
def Line.withdrawAnswer (l : Line) (t : Nat) : WithdrawAnswer :=
  match l.slotOf t with
  | none => .notHeld
  | some k => if (l.slot k).any TxFrame.begun then .tooLate else .withdrawn

/-- The Line Interface after a withdrawal: a frame not begun leaves its slot (R48). -/
def Line.withdraw (l : Line) (t : Nat) : Line :=
  match l.withdrawAnswer t, l.slotOf t with
  | .withdrawn, some k => l.setSlot k none
  | _, _ => l

/-! ## The transmitter (R43 to R46, R49) -/

def SlotId.other : SlotId → SlotId
  | .s0 => .s1
  | .s1 => .s0

/-- The slot queued first, when both are QUEUED (R41, R43). -/
def Line.firstQueued (l : Line) : SlotId := if l.slot0.any TxFrame.later then .s1 else .s0

/-- The slot the free transmitter takes (R43). -/
def Line.nextSlot (l : Line) : Option SlotId :=
  match l.slot0.isSome, l.slot1.isSome with
  | false, false => none
  | true, false => some .s0
  | false, true => some .s1
  | true, true => some ((l.lastEnd.map SlotId.other).getD l.firstQueued)

/-- The Line Interface after the transmitter starts an attempt, if it is free and a slot is QUEUED (R43). -/
def Line.startAttempt (l : Line) : Line :=
  match l.attempt, l.nextSlot with
  | none, some k => { l.setSlot k ((l.slot k).map (fun f => { f with begun := true })) with attempt := some k }
  | _, _ => l

/-- The transmitter is free again after the attempt of slot `k` (R43). -/
def Line.ended (l : Line) (k : SlotId) : Line := { l with attempt := none, lastEnd := some k }

/-- The slot's frame after one failed attempt more, or an empty slot at the sixteenth (R45). -/
def failOnce (f : TxFrame) : Option TxFrame := if f.failed + 1 < 16 then some { f with failed := f.failed + 1 } else none

/-- Both slots emptied, the transmitter free and the count 0 (R43, R49, R50). -/
def Line.emptied (l : Line) : Line :=
  { l with slot0 := none, slot1 := none, attempt := none, lastEnd := none, failures := 0 }

end Sys2Proof.Machine
end

