-- ==== Sys2Proof/Machine/Stop.lean ====
section
/-!
DEFINITION. The Stop Request Unit (R92 to R110): stop notices, lamps, selections, withdrawals, what it does at entry notices,
acknowledgements and the line's changes, and the choice of a button press. The change of line state is here too (R47).
-/

namespace Sys2Proof.Machine

/-! ## Lamps (R98) -/

def Device.button (d : Device) : Direction → Button
  | .up => d.sru.up
  | .down => d.sru.down

def Device.setButton (dir : Direction) (b : Button) (d : Device) : Device :=
  { d with sru := match dir with
      | .up => { d.sru with up := b }
      | .down => { d.sru with down := b } }

/-- The mode a lamp has for an entry (R98). -/
def Entry.lampMode (e : Entry) : LampMode :=
  match e.state with
  | .atHalt | .departed | .passed | .cancelled => .off
  | .expected | .running | .approaching =>
    match e.stop with
    | .confirmed => .steady
    | .pending | .sent => .flashing
    | .none | .unconfirmed => .off

/-- The mode of the lamp of a button with the chosen train given (R98). -/
def Device.lampModeFor (d : Device) (chosen : Option Nat) : LampMode :=
  ((chosen.bind d.entry?).map Entry.lampMode).getD .off

/-- A button with its lamp worked out afresh; a lamp that stays Flashing keeps its rhythm (R98). -/
def Button.withMode (b : Button) (m : LampMode) : Button :=
  if b.lamp = m then b else { b with lamp := m, lit := m != .off }

/-- A button whose lamp follows train `t` has its lamp worked out afresh (R98). -/
def Device.lampAfresh (d : Device) (t : Nat) (b : Button) : Button :=
  if b.chosen = some t then b.withMode (d.lampModeFor b.chosen) else b

/-- Both lamps worked out afresh for train `t` (R98). -/
def Device.refreshLamps (t : Nat) (d : Device) : Device :=
  { d with sru := { up := d.lampAfresh t d.sru.up, down := d.lampAfresh t d.sru.down } }

/-! ## Stop notices (R93) -/

/-- The stop states between which a change is not told to the terminal (R93). -/
def StopState.inProgress : StopState → Bool
  | .pending | .sent => true
  | .none | .confirmed | .unconfirmed => false

/-- The hand-on of a change of an entry's stop state: STOP_STATE_CHANGED for a watched sale, the lamps, and the board (R93). -/
def Device.stopNotice (t : Nat) (before after : StopState) (watch : Bool) (d : Device) : Device :=
  ((d.setFlagIf (watch && !(before.inProgress && after.inProgress)) .stopStateChanged).refreshLamps t).recomposeFor t

/-- Gives the entry of train `t` a stop state, with the stop notice of a change (R93). -/
def Device.setStop (t : Nat) (s : StopState) (d : Device) : Device :=
  match d.entry? t with
  | none => d
  | some e =>
    if e.stop = s then d
    else (d.updateEntry t (fun x => { x with stop := s })).stopNotice t e.stop s e.saleWatch

/-! ## Selection (R99 to R101) -/

/-- Whether a request is eligible for a slot (R99). -/
def Entry.eligible (e : Entry) : Bool := e.stop == .pending && (e.state == .running || e.state == .approaching)

/-- The time to go of an entry (R96). -/
def Device.timeToGo (d : Device) (e : Entry) : Int :=
  match e.forecast, e.held with
  | some fc, _ => (fc.departure : Int) - d.entryTime e
  | none, some h => (h.call.schedDep : Int) - d.entryTime e
  | none, none => 0

/-- The order of a selection: least time to go, then lower train number (R100). -/
def Device.sooner (d : Device) (a b : Entry) : Bool :=
  decide (d.timeToGo a < d.timeToGo b) || (decide (d.timeToGo a = d.timeToGo b) && decide (a.train < b.train))

/-- The asks of a selection, in order, until one is answered REFUSED_NO_SLOT or REFUSED_LINE_DOWN (R100, R101). -/
def askAll (point : Nat) : List Entry → Line → Line
  | [], l => l
  | e :: es, l =>
    match l.answer e.train with
    | .queued _ => askAll point es (l.ask e.train point e.waiting)
    | .refusedTrainHeld => askAll point es l
    | .refusedNoSlot | .refusedLineDown => l

/-- A selection (R100): nothing while LINE_DOWN; otherwise every free slot it can is filled. -/
def Device.selection (d : Device) : Device :=
  d.setLine (if d.line.state = .down then d.line
    else askAll d.halt.ownPoint (sortBy d.sooner (d.table.entries.filter Entry.eligible)) d.line)

/-- A withdrawal of a train's frame; a WITHDRAWN answer frees a slot, and a selection follows (R106). -/
def Device.withdrawFrame (t : Nat) (d : Device) : Device :=
  (d.setLine (d.line.withdraw t)).when (d.line.withdrawAnswer t == .withdrawn) Device.selection

/-- A selection when the entry of train `t` is eligible (R100). -/
def Device.selectIfEligible (t : Nat) (d : Device) : Device := d.when ((d.entry? t).any Entry.eligible) Device.selection

/-! ## Adding to a request (R94, R97) -/

/-- The waiting count raised by `n`, staying at 15 (R92). -/
def raiseWaiting (n w : Nat) : Nat := min 15 (w + n)

/-- Adds `n` to the request of train `t`: NONE becomes PENDING, and a selection runs where the request is then eligible
(R94, R97, R100). -/
def Device.addToRequest (t n : Nat) (watch : Bool) (d : Device) : Device :=
  let d1 := d.updateEntry t (fun e => { e with waiting := raiseWaiting n e.waiting, saleWatch := e.saleWatch || watch })
  (d1.when ((d.entry? t).any (fun e => e.stop == .none)) (Device.setStop t .pending)).selectIfEligible t

/-- A void's fall of the waiting count (R109). -/
def Device.voidFromRequest (t n : Nat) (d : Device) : Device :=
  match d.entry? t with
  | none => d
  | some e =>
    (d.updateEntry t (fun x => { x with waiting := x.waiting - n })).when (e.waiting - n == 0 && e.stop == .pending)
      (fun d => (d.setStop t .none).withdrawFrame t)

/-! ## Entry notices (R103, R105, R107, R108) -/

/-- Whether a REPORT notice reaches the cutoff (R105). -/
def EntryNotice.reachesCutoff (n : EntryNotice) (c : CallRec) : Bool :=
  belowCutoff n.indexBefore c && !belowCutoff n.indexAfter c

/-- The cutoff of R105 on an entry with its call. -/
def Device.cutoffAt (n : EntryNotice) (e : Entry) (c : CallRec) (d : Device) : Device :=
  if n.reachesCutoff c && e.stop.inProgress then
    ((d.setStop n.train .unconfirmed).withdrawFrame n.train).when (n.indexAfter != some 7)
      (Device.trainCue .mayNotStop n.train (some c.platform) 2)
  else d

/-- Whether the repetition of R103 applies. -/
def Entry.repeats (n : EntryNotice) (e : Entry) (c : CallRec) : Bool :=
  (n.stateAfter == .running || n.stateAfter == .approaching) && belowCutoff n.indexAfter c && e.stop == .sent
    && decide (1 ≤ e.waiting)

/-- A REPORT notice in the Stop Request Unit: the cutoff, then the repetition, then the selection that an eligible request
calls for (R100, R103, R105). -/
def Device.stopReport (n : EntryNotice) (d : Device) : Device :=
  match (d.entry? n.train).bind (fun e => e.held.map (fun h => (e, h.call))) with
  | none => d
  | some (e, c) =>
    ((d.cutoffAt n e c).when (e.repeats n c) (Device.setStop n.train .pending)).when
      (e.repeats n c || n.stateBefore == .expected) (Device.selectIfEligible n.train)

/-- A CANCEL notice: a request in PENDING or SENT is dropped, and the frame withdrawn (R107). -/
def Device.stopCancel (t : Nat) (d : Device) : Device :=
  (d.when ((d.entry? t).any (fun e => e.stop.inProgress)) (Device.setStop t .none)).withdrawFrame t

/-- Whether a REINSTATE notice makes the request again (R107). -/
def Entry.remade (e : Entry) : Bool :=
  e.stop == .none && decide (1 ≤ e.waiting)
    && (e.state == .expected || e.state == .running || e.state == .approaching)
    && e.held.any (fun h => h.call.kind == .request && belowCutoff e.lastIndex h.call)

/-- A REINSTATE notice (R107). -/
def Device.stopReinstate (t : Nat) (d : Device) : Device :=
  d.when ((d.entry? t).any Entry.remade) (fun d => (d.setStop t .pending).selectIfEligible t)

/-- A button loses its chosen train when that train is removed, and its lamp goes off (R98, R108). -/
def Button.forget (t : Nat) (b : Button) : Button := if b.chosen = some t then { b with chosen := none, lamp := .off, lit := false } else b

/-- A REMOVED notice (R108). -/
def Device.stopRemoved (t : Nat) (d : Device) : Device :=
  ({ d with sru := { up := d.sru.up.forget t, down := d.sru.down.forget t } } : Device).withdrawFrame t

/-- The Stop Request Unit takes an entry notice; the lamps that follow the train are worked out afresh (R98). -/
def Device.stopUnitNotice (n : EntryNotice) (d : Device) : Device :=
  (match n.cause with
    | .report => d.stopReport n
    | .cancel => d.stopCancel n.train
    | .reinstate => d.stopReinstate n.train
    | .removed => d.stopRemoved n.train
    | .entered | .platform _ _ => d).refreshLamps n.train

/-! ## Acknowledgements and STOPACK (R102, R104) -/

/-- An ACKNOWLEDGED outcome: PENDING becomes SENT, and a selection follows (R102). -/
def Device.takeAcknowledged (t : Nat) (d : Device) : Device :=
  (d.when ((d.entry? t).any (fun e => e.stop == .pending)) (Device.setStop t .sent)).selection

/-- A STOPACK taken on the entry of its train (R104). -/
def Device.takeStopAck (t : Nat) (d : Device) : Device :=
  match d.entry? t with
  | none => d
  | some e =>
    if e.state = .departed ∨ e.state = .passed ∨ e.stop = .none ∨ e.stop = .confirmed then d
    else (d.setStop t .confirmed).when (e.stop == .pending) (Device.withdrawFrame t)

/-! ## Line state (R38, R44, R46, R47, R49, R110) -/

/-- The Stop Request Unit takes a change of line state: a selection at LINE_UP (R110). -/
def Device.stopLineState (s : LineState) (d : Device) : Device := d.when (s == .up) Device.selection

/-- Gives the Line Interface a line state; a change sets LINE_CHANGED and is handed to the Stop Request Unit and the Notice
Store, in an order the spec leaves open. The Sale Unit reads the line state where it needs it (R47, R128). -/
def Device.setLineState (s : LineState) (d : Device) : Device :=
  if d.line.state = s then d
  else
    ((d.setLine { d.line with state := s }).setFlag .lineChanged).forAll
      [Device.stopLineState s, Device.setSn2 (s == .down)] (fun f d => f d)

/-- The line back at LINE_UP and told to the Notice Store, the selection of the return not yet run (R38, R47). -/
def Device.lineBack (d : Device) : Device :=
  ((d.setLine { d.line with state := .up }).setFlag .lineChanged).setSn2 false

/-- The line is up, or returns to LINE_UP, at an event that also brings the change `f`. The selection of a return and the change are
taken in either order, as a free choice has it (R38, R44, R47, R100, log 41). -/
def Device.returnLine (f : Device → Device) (d : Device) : Device :=
  if d.line.state = .up then f d
  else
    let c := d.freeChoice
    if c.1 then (f c.2.lineBack).selection else f (c.2.setLineState .up)

/-- The failure count after one failed frame more (R46). -/
def Device.countFailure (d : Device) : Device :=
  (d.setLine { d.line with failures := min 3 (d.line.failures + 1) }).when (min 3 (d.line.failures + 1) == 3)
    (Device.setLineState .down)

/-! ## The choice of a press (R96) -/

/-- A call a press may choose, with its time to go; `entered` says whether its train has an entry. -/
structure PressChoice where
  train : Nat
  toGo : Int
  entered : Bool
deriving DecidableEq, Repr

/-- Whether an entry is a candidate of a press, its time to go aside (R96). -/
def Entry.pressable (dir : Direction) (e : Entry) : Bool :=
  (e.state == .expected || e.state == .running || e.state == .approaching)
    && e.held.any (fun h => h.call.kind == .request && h.call.direction == dir && belowCutoff e.lastIndex h.call)

/-- The candidates of a press that qualify (R96). -/
def Device.pressCandidates (d : Device) (dir : Direction) : List PressChoice :=
  ((d.table.entries.filter (Entry.pressable dir)).map
      (fun e => { train := e.train, toGo := d.timeToGo e, entered := true : PressChoice })).filter
        (fun c => decide (c.toGo ≤ 5400))
  ++ (((d.tt.dayList d.today).filter (fun h => h.call.kind == .request && h.call.direction == dir
        && (d.entry? h.call.train).isNone && !d.board.finished.contains h.call.train)).map
      (fun h => { train := h.call.train, toGo := (h.call.schedDep : Int) - d.now, entered := false : PressChoice })).filter
        (fun c => decide (c.toGo ≤ 5400) && decide (-300 ≤ c.toGo))

/-- The order of a press: least time to go, then lower train number (R96). -/
def PressChoice.before (a b : PressChoice) : Bool :=
  decide (a.toGo < b.toGo) || (decide (a.toGo = b.toGo) && decide (a.train < b.train))

/-- The call a press chooses (R96). -/
def Device.pressChoice (d : Device) (dir : Direction) : Option PressChoice :=
  (sortBy PressChoice.before (d.pressCandidates dir)).head?

end Sys2Proof.Machine
end

