-- ==== Sys2Proof/Machine/Fares.lean ====
section
/-!
DEFINITION. The Fare Unit (R111 to R122): staging, the exchange of an apply, bands and prices.
-/

namespace Sys2Proof.Machine

/-! ## Staging (R114 to R117) -/

def FareBank.begun (id : Nat) : FareBank := { id := some id, dests := [], rules := none, state := .loading }

/-- A fare bank with a destination more, in code order (R111, R115). -/
def FareBank.addDest (b : FareBank) (x : FareDest) : FareBank :=
  { b with dests := insertBy (fun a b => decide (a.code < b.code)) x b.dests }

/-- The record of a destination code. -/
def FareBank.find? (b : FareBank) (code : Nat) : Option FareDest := b.dests.find? (fun x => x.code == code)

/-- Writes the STAGED fare bank. -/
def Device.setStagedFares (b : FareBank) (d : Device) : Device := { d with fares := { d.fares with staged := b } }

/-- STAGE_BEGIN(FARES) with the id given (R114). -/
def stageBeginFares (id : Nat) (d : Device) : Device × Reply :=
  if id = 0 then (d, .badParam [])
  else if d.co.unit = .timing then (d, .refused .busy [])
  else (d.setStagedFares (.begun id), .ok [])

/-- The record that STAGE_PUT_FARE carries (R203). -/
def fareDestFrom (ps : List Byte) : FareDest :=
  { code := u16At ps 0, name := textAt ps 5, base := u16At ps 2, validity := byteAt ps 4 }

/-- The four checks of STAGE_PUT_FARE (R115). -/
def FareDest.checks (x : FareDest) : List Bool :=
  [ decide (1 ≤ x.code) && decide (x.code ≤ 999)
  , textOk 24 x.name
  , decide (x.base ≤ 50000)
  , decide (x.validity ≤ 30) ]

/-- STAGE_PUT_FARE (R115). The check number and the destination count take 1 byte: DESIGN CHOICE (log 15). -/
def runStagePutFare (ps : List Byte) (d : Device) : Device × Reply :=
  if d.fares.staged.state ≠ .loading then (d, .refused .notLoading [])
  else
    match firstFailing 1 (fareDestFrom ps).checks with
    | some n => (d, .badParam (be8 n))
    | none =>
      if (d.fares.staged.find? (fareDestFrom ps).code).isSome then (d, .refused .duplicate (be16 (fareDestFrom ps).code))
      else if 40 ≤ d.fares.staged.dests.length then (d, .refused .full [])
      else (d.setStagedFares (d.fares.staged.addDest (fareDestFrom ps)), .ok (be8 (d.fares.staged.dests.length + 1)))

/-- The window records from offset `i` on, their day masks kept as sent in the first component (R203). -/
def windowsAt (ps : List Byte) (i : Nat) : Nat → List (Nat × PeakWindow)
  | 0 => []
  | n + 1 =>
    (byteAt ps i, { days := BitVec.ofNat 7 (byteAt ps i), start := u24At ps (i + 1), stop := u24At ps (i + 4) })
      :: windowsAt ps (i + 7) n

/-- The rules that STAGE_PUT_RULES carries (R203). -/
def fareRulesFrom (ps : List Byte) : FareRules :=
  { returnFactor := u16At ps 0, dayFactor := u16At ps 2, childFactor := u16At ps 4, concessionFactor := u16At ps 6,
    peakFactor := u16At ps 8, groupThreshold := byteAt ps 10, groupDiscount := u16At ps 11, capSingle := u24At ps 13,
    capReturn := u24At ps 16, capDay := u24At ps 19, windows := (windowsAt ps 23 (byteAt ps 22)).map Prod.snd }

/-- A peak window with its day mask as sent: at least one day and none beyond Sunday, and a start below its end (R116). -/
def windowFits (w : Nat × PeakWindow) : Bool :=
  decide (1 ≤ w.1) && decide (w.1 ≤ 127) && decide (w.2.start ≤ 86399) && decide (1 ≤ w.2.stop) && decide (w.2.stop ≤ 86400)
    && decide (w.2.start < w.2.stop)

def inRange (lo hi n : Nat) : Bool := decide (lo ≤ n) && decide (n ≤ hi)

/-- A cap lies in 0 to 300 000 and is a multiple of 10 (R116). -/
def capOk (n : Nat) : Bool := decide (n ≤ 300000) && n % 10 == 0

/-- The eight checks of STAGE_PUT_RULES (R116). -/
def ruleChecks (ps : List Byte) : List Bool :=
  let r := fareRulesFrom ps
  [ inRange 500 3000 r.returnFactor && inRange 500 3000 r.dayFactor
  , decide (r.childFactor ≤ 1000) && decide (r.concessionFactor ≤ 1000)
  , decide (byteAt ps 22 ≤ 4)
  , (windowsAt ps 23 (byteAt ps 22)).all windowFits
  , inRange 1000 2000 r.peakFactor
  , r.groupThreshold == 0 || inRange 2 9 r.groupThreshold
  , decide (r.groupDiscount ≤ 500)
  , capOk r.capSingle && capOk r.capReturn && capOk r.capDay ]

/-- STAGE_PUT_RULES (R116). The check number takes 1 byte: DESIGN CHOICE (log 15). -/
def runStagePutRules (ps : List Byte) (d : Device) : Device × Reply :=
  if d.fares.staged.state ≠ .loading then (d, .refused .notLoading [])
  else
    match firstFailing 1 (ruleChecks ps) with
    | some n => (d, .badParam (be8 n))
    | none => (d.setStagedFares { d.fares.staged with rules := some (fareRulesFrom ps) }, .ok [])

/-- The state a close leaves (R117). -/
def FareBank.closeState (b : FareBank) (count : Nat) : BankState :=
  if count == b.dests.length && b.rules.isSome then .ready else .broken

/-- The data of a STAGE_CLOSE(FARES) response (R117). The destination count takes 1 byte: DESIGN CHOICE (log 15). -/
def FareBank.closeData (b : FareBank) (count : Nat) : List Byte :=
  be8 (b.closeState count).code ++ be8 b.dests.length ++ beFlag (count != b.dests.length) ++ beFlag b.rules.isNone

/-- STAGE_CLOSE for the fare item (R117, R12). -/
def stageCloseFares (count : Nat) (d : Device) : Device × Reply :=
  if d.fares.staged.state ≠ .loading then (d, .refused .notLoading [])
  else if 40 < count then (d, .badParam [])
  else
    ((d.setStagedFares { d.fares.staged with state := d.fares.staged.closeState count }).setFlag .stageResult,
      .ok (d.fares.staged.closeData count))

/-- STAGE_BEGIN with its item byte (R202, R204). -/
def runStageBegin (ps : List Byte) (d : Device) : Device × Reply :=
  if byteAt ps 0 = 1 then stageBeginTimetable (u16At ps 1) d
  else if byteAt ps 0 = 2 then stageBeginFares (u16At ps 1) d
  else (d, .badParam [])

/-- STAGE_CLOSE with its item byte (R202, R204). -/
def runStageClose (ps : List Byte) (d : Device) : Device × Reply :=
  if byteAt ps 0 = 1 then stageCloseTimetable (byteAt ps 1) d
  else if byteAt ps 0 = 2 then stageCloseFares (byteAt ps 1) d
  else (d, .badParam [])

/-! ## Apply (R118) -/

/-- What an apply of the fare item does to the banks and the generation, and the item's result (R118, R183). -/
def FareStore.apply (f : FareStore) (m : ApplyMode) : FareStore × ItemResult :=
  match m with
  | .none => (f, .none)
  | .replace =>
    if f.staged.state = .ready then
      ({ active := f.staged, staged := .cleared, generation := f.generation + 1 }, .applied)
    else (f, .notApplied f.staged.state)
  | .swap =>
    if f.staged.state = .ready then
      ({ active := f.staged, staged := f.active, generation := f.generation + 1 }, .applied)
    else (f, .notApplied f.staged.state)

/-! ## Pricing (R120 to R122) -/

/-- Whether a service second lies in a peak window on a weekday (R112, R120). -/
def PeakWindow.contains (w : PeakWindow) (day s : Nat) : Bool :=
  w.days.getLsbD day && decide (w.start ≤ s) && decide (s < w.stop)

/-- The band of a reference time on a date (R120). -/
def FareRules.band (r : FareRules) (x : Date) (s : Nat) : Band :=
  if r.windows.any (fun w => w.contains (weekday x) s) then .peak else .offPeak

def FareRules.typeFactor (r : FareRules) : TicketType → Nat
  | .single => 1000
  | .returnT => r.returnFactor
  | .day => r.dayFactor

def FareRules.classFactor (r : FareRules) : TicketClass → Nat
  | .adult => 1000
  | .child => r.childFactor
  | .concession => r.concessionFactor

def FareRules.bandFactor (r : FareRules) : Band → Nat
  | .peak => r.peakFactor
  | .offPeak => 1000

def FareRules.cap (r : FareRules) : TicketType → Nat
  | .single => r.capSingle
  | .returnT => r.capReturn
  | .day => r.capDay

/-- A price held to its cap, 0 meaning none (R121). -/
def capped (cap p : Nat) : Nat := if cap ≠ 0 ∧ cap < p then cap else p

/-- The per-passenger fare p (R121). -/
def FareRules.fare (r : FareRules) (base : Nat) (t : TicketType) (c : TicketClass) (b : Band) : Nat :=
  capped (r.cap t)
    ((base * r.typeFactor t * r.classFactor c * r.bandFactor b + 5000000000) / 10000000000 * 10)

/-- The group discount on a total (R122). -/
def FareRules.discount (r : FareRules) (total n : Nat) : Nat :=
  if r.groupThreshold ≠ 0 ∧ r.groupThreshold ≤ n then total * r.groupDiscount / 10000 * 10 else 0

end Sys2Proof.Machine
end

