-- ==== Sys2Proof/Machine/Changeover.lean ====
section
/-!
DEFINITION. The Change-over Unit (R175 to R185): settings, triggers, the watch for LAST_CALL_DONE, the delay, skips and the
apply.
-/

namespace Sys2Proof.Machine

/-- Writes the Change-over Unit's state. -/
def Device.setCo (c : Changeover) (d : Device) : Device := { d with co := c }

/-! ## Triggers (R177 to R179) -/

/-- A trigger taken by the unit: an ARMED unit with the trigger in its set enters TIMING (R179). -/
def Changeover.trigger (c : Changeover) (t : Trigger) (inSet : Bool) : Changeover :=
  if c.unit = .armed ∧ inSet then { c with unit := .timing, timer := some { cause := t, elapsed := 0 } } else c

/-- Whether a call of today's day list is finished (R178). -/
def Device.callFinished (d : Device) (c : CallRec) : Bool :=
  decide (c.schedDep + 7200 < d.now) ||
    match d.todayEntry? c.train with
    | some e => e.state == .departed || e.state == .passed || e.state == .cancelled
    | none => d.board.finished.contains c.train

/-- Whether LAST_CALL_DONE holds: every STOP or REQUEST call of today is finished (R178). -/
def Device.lastCallHolds (d : Device) : Bool :=
  (d.tt.dayList d.today).all (fun h => h.call.kind == .pass || d.callFinished h.call)

/-- The test of R178, with the trigger taken where it is raised. -/
def Device.lastCallTest (d : Device) : Device :=
  if d.co.unit ≠ .disarmed ∧ d.co.onLastCall ∧ d.lastCallHolds ∧ d.co.doneDate ≠ some d.today then
    d.setCo (({ d.co with doneDate := some d.today } : Changeover).trigger .lastCallDone d.co.onLastCall)
  else d

/-- The day boundary as a trigger (R177). -/
def Device.dayTrigger (d : Device) : Device := d.setCo (d.co.trigger .dayBoundary d.co.onDayBoundary)

/-! ## The apply (R183 to R185) -/

/-- Writes the banks an apply leaves. -/
def Device.setBanks (tt : TimetableStore) (f : FareStore) (d : Device) : Device := { d with tt := tt, fares := f }

/-- The unit after an apply (R184). -/
def Changeover.afterApply (c : Changeover) (cause : Trigger) (date : Date) (second : Nat) (tt fares : ItemResult) : Changeover :=
  let swap := c.ttMode == .swap || c.fareMode == .swap
  { c with
    unit := if swap then .armed else .disarmed
    armed := swap
    timer := none
    skipCount := c.skipSetting
    lastResult := some { cause := cause, date := date, second := second, outcome := .applied tt fares,
                         skipAfter := c.skipSetting, unitAfter := if swap then .armed else .disarmed } }

/-- The results of an apply handed to the Board Composer, the Sale Unit and the unit's own watch, in an order the spec leaves
open (R178, R184, R185, log 6). -/
def Device.applyHandedOn (ttApplied faresApplied : Bool) (d : Device) : Device :=
  d.forAll [Device.when ttApplied Device.rebuildAll, Device.when faresApplied Device.evalSales, Device.lastCallTest] (fun f d => f d)

/-- An apply of both items with its cause: the banks, the unit, CHANGEOVER_DONE, and the results handed on (R183 to R185). -/
def Device.runApply (cause : Trigger) (d : Device) : Device :=
  let t := d.tt.apply d.co.ttMode
  let f := d.fares.apply d.co.fareMode
  (((d.setBanks t.1 f.1).setCo (d.co.afterApply cause d.today d.now t.2 f.2)).setFlag .changeoverDone).applyHandedOn
    (t.2 == .applied) (f.2 == .applied)

/-- The unit after an expiry that spends a skip (R181). -/
def Changeover.afterSkip (c : Changeover) (cause : Trigger) (date : Date) (second : Nat) : Changeover :=
  { c with
    unit := .armed
    timer := none
    skipCount := c.skipCount - 1
    lastResult := some { cause := cause, date := date, second := second, outcome := .skipped, skipAfter := c.skipCount - 1,
                         unitAfter := .armed } }

/-- The delay expiry, when the timer has reached the delay (R180, R181). -/
def Device.delayExpiry (d : Device) : Device :=
  match d.co.unit, d.co.timer with
  | .timing, some t =>
    if t.elapsed < d.co.delay then d
    else if 0 < d.co.skipCount then (d.setCo (d.co.afterSkip t.cause d.today d.now)).lastCallTest
    else d.runApply t.cause
  | _, _ => d

/-- Whether a day boundary starts a delay that expires at once (R177, R180). -/
def Changeover.startsSpent (c : Changeover) : Bool := c.unit == .armed && c.onDayBoundary && c.delay == 0

/-! ## Encodings (R175, R184) -/

/-- An item of a last result in two bytes, the second the STAGED state found, or 0 beside NONE and APPLIED: DESIGN CHOICE
(log 15). -/
def itemData : ItemResult → List Byte
  | .none => be8 1 ++ be8 0
  | .applied => be8 2 ++ be8 0
  | .notApplied s => be8 3 ++ be8 s.code

/-- The outcome and the two items; those of a SKIPPED result, which are absent, are sent as 0: DESIGN CHOICE (log 15). -/
def outcomeData : ApplyOutcome → List Byte
  | .applied t f => be8 1 ++ itemData t ++ itemData f
  | .skipped => be8 2 ++ [0, 0, 0, 0]

/-- The last result record; an absent one is sent as absent codes and zeros: DESIGN CHOICE (R184, log 15). -/
def resultData : Option LastResult → List Byte
  | none => be8 0 ++ beDate? none ++ be24? none ++ be8 0 ++ [0, 0, 0, 0] ++ be8 0 ++ be8 0
  | some r =>
    be8 r.cause.code ++ be16 r.date.toNat ++ be24 r.second ++ outcomeData r.outcome ++ be8 r.skipAfter ++ be8 r.unitAfter.code

/-! ## Commands (R176, R182) -/

/-- The unit after a CHANGEOVER_SET with the settings given (R176). -/
def Changeover.settings (c : Changeover) (day last : Bool) (delay skip : Nat) (tm fm : ApplyMode) : Changeover :=
  let armed := day || last || tm == .swap || fm == .swap
  { c with onDayBoundary := day, onLastCall := last, delay := delay, skipSetting := skip, ttMode := tm, fareMode := fm,
           skipCount := skip, unit := if armed then .armed else .disarmed, armed := armed }

/-- CHANGEOVER_SET (R176, R178). The response carries the unit state that the test of R178, made at once, leaves: DESIGN CHOICE
(log 47). -/
def runChangeoverSet (ps : List Byte) (d : Device) : Device × Reply :=
  match ApplyMode.ofCode (byteAt ps 4), ApplyMode.ofCode (byteAt ps 5) with
  | some tm, some fm =>
    if 3 < byteAt ps 0 ∨ 3600 < u16At ps 1 ∨ 15 < byteAt ps 3 then (d, .badParam [])
    else if d.co.unit = .timing then (d, .refused .busy [])
    else
      let c := d.co.settings (byteAt ps 0 % 2 == 1) (byteAt ps 0 / 2 == 1) (u16At ps 1) (byteAt ps 3) tm fm
      let d' := (d.setCo c).lastCallTest
      (d', .ok (be8 d'.co.unit.code ++ be8 d'.co.skipCount))
  | _, _ => (d, .badParam [])

/-- APPLY_NOW (R182). -/
def runApplyNow (_ps : List Byte) (d : Device) : Device × Reply :=
  if d.co.unit = .disarmed then (d, .refused .notArmed [])
  else
    let d' := d.runApply .applyNow
    (d', .ok (resultData d'.co.lastResult))

end Sys2Proof.Machine
end

