-- ==== Sys2Proof/Machine/Running.lean ====
section
/-!
DEFINITION. The Running Table (R51 to R73) and the entry notices it hands on (R64): entering and removing trains, RUN frames,
SERVICE frames, STOPACK touches and the sweep. The Cue Queue's part of a notice is here too (R171, R172).
-/

namespace Sys2Proof.Machine

/-! ## Handing an entry notice on (R64) -/

/-- The cue of a move to APPROACHING by call kind and stop request (R171). -/
def approachCue (kind : CallKind) (stop : StopState) (waiting : Nat) : Option (CueKind × Nat) :=
  match kind with
  | .stop => some (.approaching, 1)
  | .pass => some (.passing, 3)
  | .request =>
    if stop = .confirmed then some (.approaching, 1)
    else if waiting = 0 then some (.passing, 3)
    else none

/-- The cue an entry notice raises, with its train's entry: kind, platform and priority (R171, R172). -/
def EntryNotice.cueFor (n : EntryNotice) (e : Entry) : Option (CueKind × Option Nat × Nat) :=
  match n.cause with
  | .report =>
    if n.stateBefore ≠ .approaching ∧ n.stateAfter = .approaching then
      (e.held.bind (fun h => (approachCue h.call.kind e.stop e.waiting).map (fun k => (k.1, some h.call.platform, k.2))))
    else none
  | .cancel => some (.cancelled, e.platform, 2)
  | .platform _ new => some (.platformChange, some new, 2)
  | .entered | .reinstate | .removed => none

/-- The Cue Queue takes an entry notice (R171, R172). -/
def Device.cueNotice (n : EntryNotice) (d : Device) : Device :=
  match (d.entry? n.train).bind n.cueFor with
  | some (k, p, prio) => d.trainCue k n.train p prio
  | none => d

/-- An entry notice handed to its five receivers, in an order the spec leaves open (R64, log 6). -/
def Device.deliver (n : EntryNotice) (d : Device) : Device :=
  d.forAll [Device.forecastNotice n, Device.stopUnitNotice n, Device.boardNotice n, Device.cueNotice n, Device.lastCallTest]
    (fun f d => f d)

/-! ## Removal (R73) -/

/-- Deletes the entry of train `t`. -/
def Device.deleteEntry (t : Nat) (d : Device) : Device :=
  { d with table := { d.table with entries := d.table.entries.filter (fun e => e.train != t) } }

/-- The REMOVED notice of an entry (R73, log 34). -/
def Entry.removedNotice (e : Entry) : EntryNotice :=
  { train := e.train, date := e.date, cause := .removed, stateBefore := e.state, stateAfter := e.state,
    indexBefore := e.lastIndex, indexAfter := e.lastIndex }

/-- Removes the entry of train `t` with its REMOVED notice (R73). -/
def Device.removeTrain (t : Nat) (d : Device) : Device :=
  match d.entry? t with
  | none => d
  | some e => (d.deleteEntry t).deliver e.removedNotice

/-! ## Entering (R55 to R57) -/

/-- Whether an entry may be replaced (R56). -/
def Entry.replaceable (e : Entry) : Bool := e.state == .departed || e.state == .passed || e.state == .cancelled

/-- The age order of replaceable entries: service date, then no report time, then the report time, then the train (R56). -/
def Entry.older (a b : Entry) : Bool :=
  if a.date ≠ b.date then decide (dateDiff a.date b.date < 0)
  else
    match a.lastTime, b.lastTime with
    | none, some _ => true
    | some _, none => false
    | none, none => decide (a.train < b.train)
    | some x, some y => decide (x < y) || (x == y && decide (a.train < b.train))

/-- The oldest of some entries. -/
def oldest : List Entry → Option Entry
  | [] => none
  | e :: es =>
    match oldest es with
    | none => some e
    | some o => some (if o.older e then o else e)

/-- The entry that a new one replaces on a full table (R56). -/
def RunningTable.victim (tb : RunningTable) : Option Entry := oldest (tb.entries.filter Entry.replaceable)

/-- A new entry (R55). -/
def Entry.fresh (t : Nat) (date : Date) (held : Option HeldCall) : Entry :=
  { train := t, date := date, held := held, state := .expected, beforeCancel := none, lastIndex := none, lastEvent := none,
    lastTime := none, haltArrival := none, delay := none, forecast := none, firstOverdue := none, overdue := false,
    overdueLong := false, delayCued := false, stale := false, touched := true, idleSweeps := 0, stop := .none, waiting := 0,
    saleWatch := false }

/-- The table with an entry more, in train order. -/
def Device.insertEntry (e : Entry) (d : Device) : Device :=
  { d with table := { d.table with entries := insertBy (fun a b => decide (a.train < b.train)) e d.table.entries } }

/-- The ENTERED notice of a new entry (R64). The state before is the new entry's own: DESIGN CHOICE (log 39). -/
def Entry.enteredNotice (e : Entry) : EntryNotice :=
  { train := e.train, date := e.date, cause := .entered, stateBefore := e.state, stateAfter := e.state,
    indexBefore := none, indexAfter := none }

/-- The answers to an ask to enter a train (R57). -/
inductive EnterAnswer where
  | exists
  | entered
  | notListed
  | tableFull
deriving DecidableEq, Repr

/-- Sets TABLE_FULL, and its flag in the Office port's set when it was clear (R56). -/
def Device.setTableFull (d : Device) : Device :=
  ({ d with table := { d.table with full := true } } : Device).setFlagIf (!d.table.full) .tableFull

/-- Makes the entry given: at once where fewer than 24 are held, in place of the oldest replaceable one where 24 are
held, or not at all (R55, R56). -/
def Device.makeEntry (e : Entry) (d : Device) : EnterAnswer × Device :=
  if d.table.entries.length < 24 then (.entered, (d.insertEntry e).deliver e.enteredNotice)
  else
    match d.table.victim with
    | some v => (.entered, ((d.removeTrain v.train).insertEntry e).deliver e.enteredNotice)
    | none => (.tableFull, d.setTableFull)

/-- Enters train `t`, which has no entry; `fromFrame` tells whether a frame is the cause (R55). -/
def Device.enterTrain (t : Nat) (fromFrame : Bool) (d : Device) : EnterAnswer × Device :=
  match d.tt.lookup d.today t with
  | some h => d.makeEntry (.fresh t d.today (some h))
  | none => if fromFrame && d.halt.enterUnlisted then d.makeEntry (.fresh t d.today none) else (.notListed, d)

/-- An ask to enter a train by the Sale Unit or the Stop Request Unit (R57). -/
def Device.askEnter (t : Nat) (d : Device) : EnterAnswer × Device :=
  match d.entry? t with
  | some _ => (.exists, d)
  | none => d.enterTrain t false

/-- An entry made for train `t` if it has none, for a frame (R65). -/
def Device.ensureEntry (t : Nat) (d : Device) : Device :=
  match d.entry? t with
  | some _ => d
  | none => (d.enterTrain t true).2

/-- A touch (R59, R69). -/
def Device.touch (t : Nat) (d : Device) : Device := d.updateEntry t (fun e => { e with touched := true })

/-! ## RUN frames (R58 to R63) -/

/-- The state that a RUN frame is judged by: for a CANCELLED entry, the state before cancel (R63). -/
def Entry.effectiveState (e : Entry) : RunState :=
  match e.state with
  | .cancelled => e.beforeCancel.getD .cancelled
  | .expected => .expected
  | .running => .running
  | .approaching => .approaching
  | .atHalt => .atHalt
  | .departed => .departed
  | .passed => .passed

/-- What a RUN frame is for an entry: touch only, or a new report away from the route, at a route point, or at the halt
(R60, R62). -/
inductive RunJudgement where
  | touchOnly
  | away
  | route (k : Nat) (pt : RoutePoint)
  | halt
deriving DecidableEq, Repr

/-- The index of a point in a route, counted from `k` (R60). -/
def routeIndex (point : Nat) (k : Nat) : List RoutePoint → Option (Nat × RoutePoint)
  | [] => none
  | r :: rs => if r.point = point then some (k, r) else routeIndex point (k + 1) rs

/-- Whether a matched index and event make a new report (R60). -/
def Entry.newReport (e : Entry) (k : Nat) (ev : RunEvent) : Bool :=
  match e.lastIndex with
  | none => true
  | some j => decide (j < k) || (j == k && decide (e.lastEvent ≠ some ev))

/-- The judgement of a RUN frame whose second and event are in range (R59, R60, R62, R63). -/
def Entry.judge (own : Nat) (e : Entry) (point : Nat) (ev : RunEvent) : RunJudgement :=
  if e.effectiveState = .departed ∨ e.effectiveState = .passed then .touchOnly
  else if point = own then (if e.newReport 7 ev then .halt else .touchOnly)
  else
    match e.held with
    | some h =>
      match routeIndex point 1 h.call.route with
      | some (k, pt) => if e.newReport k ev then .route k pt else .touchOnly
      | none => .touchOnly
    | none => if e.effectiveState = .expected ∨ e.effectiveState = .running then .away else .touchOnly

/-- The reported delay, held to -1800 and 21600 (R61). -/
def clampDelay (t passing : Nat) : Int := max (-1800) (min 21600 ((t : Int) - passing))

/-- A state move: of a CANCELLED entry, to its state before cancel (R63). -/
def Entry.moveTo (s : RunState) (e : Entry) : Entry :=
  if e.state = .cancelled then { e with beforeCancel := some s } else { e with state := s }

/-- The state that a report at route point `k` moves to (R61). -/
def Entry.routeState (e : Entry) (k : Nat) : RunState :=
  if e.held.any (fun h => h.call.approach.any (fun a => decide (a ≤ k))) then .approaching else .running

/-- The state that a report at the halt moves to (R61). -/
def RunEvent.haltState : RunEvent → RunState
  | .arrived => .atHalt
  | .departed => .departed
  | .passed => .passed

/-- The entry after a new report (R61, R62, R63). -/
def Entry.report (e : Entry) (j : RunJudgement) (t : Nat) (ev : RunEvent) : Entry :=
  match j with
  | .touchOnly => e
  | .away => ({ e with lastEvent := some ev, lastTime := some t } : Entry).moveTo .running
  | .route k pt =>
    ({ e with lastIndex := some k, lastEvent := some ev, lastTime := some t,
              delay := some (clampDelay t pt.passing) } : Entry).moveTo (e.routeState k)
  | .halt =>
    ({ e with lastIndex := some 7, lastEvent := some ev, lastTime := some t,
              haltArrival := if ev = .arrived then some t else e.haltArrival } : Entry).moveTo ev.haltState

/-- The REPORT notice of a change of an entry (R64). -/
def reportNotice (a b : Entry) : EntryNotice :=
  { train := a.train, date := a.date, cause := .report, stateBefore := a.state, stateAfter := b.state,
    indexBefore := a.lastIndex, indexAfter := b.lastIndex }

/-- The greatest last report time and halt arrival time (R58). -/
def clampReport (t : Nat) : Nat := min t 108119

/-- Carries out a RUN frame that passed the date test, with T as the frame gives it; a second out of range or an unknown
event code is touch only (R59). -/
def Device.runReport (t point : Nat) (event second time : Nat) (d : Device) : Device :=
  match (d.touch t).entry? t, RunEvent.ofCode event with
  | some e, some ev =>
    if 86399 < second ∨ e.judge d.halt.ownPoint point ev = .touchOnly then d.touch t
    else
      ((d.touch t).updateEntry t
        (fun _ => e.report (e.judge d.halt.ownPoint point ev) (clampReport time) ev)).deliver
          (reportNotice e (e.report (e.judge d.halt.ownPoint point ev) (clampReport time) ev))
  | _, _ => d.touch t

/-- The date byte of a service date (R58). -/
def dateByte (x : Date) : Nat := x.toNat % 256

/-- The Running Table takes a RUN frame (R58): event, service second and date byte are its data. -/
def Device.runFrame (t point : Nat) (data : List Byte) (d : Device) : Device :=
  match d.entry? t with
  | none =>
    if byteAt data 4 = dateByte d.today then
      match d.enterTrain t true with
      | (.entered, d') => d'.runReport t point (byteAt data 0) (u24At data 1) (u24At data 1)
      | (_, d') => d'
    else d
  | some e =>
    if byteAt data 4 = dateByte e.date then d.runReport t point (byteAt data 0) (u24At data 1) (u24At data 1)
    else if byteAt data 4 = dateByte (e.date + 1) then
      d.runReport t point (byteAt data 0) (u24At data 1) (u24At data 1 + 86400)
    else d

/-! ## SERVICE frames (R65 to R68) -/

/-- The actions of a SERVICE frame (R65, R203). -/
inductive ServiceAction where
  | cancel
  | reinstate
  | platform (new : Nat)
deriving DecidableEq, Repr

/-- The action that the data of a SERVICE frame carry; none for an unknown code or for data that are too short
(R65, log 5). -/
def ServiceAction.ofData (data : List Byte) : Option ServiceAction :=
  if data.length < 2 then none
  else
    match byteAt data 0 with
    | 1 => some .cancel
    | 2 => some .reinstate
    | 3 => some (.platform (byteAt data 1))
    | _ => none

/-- The held call on a new platform (R68). -/
def HeldCall.onPlatform (p : Nat) (h : HeldCall) : HeldCall := { h with call := { h.call with platform := p } }

/-- The entry after a service action and the cause of the notice, or none for touch only (R66 to R68). -/
def Entry.service (e : Entry) (a : ServiceAction) : Option (Entry × NoticeCause) :=
  match a with
  | .cancel =>
    match e.state with
    | .expected | .running | .approaching | .atHalt =>
      some ({ e with state := .cancelled, beforeCancel := some e.state }, .cancel)
    | .departed | .passed | .cancelled => none
  | .reinstate =>
    match e.state, e.beforeCancel with
    | .cancelled, some s => some ({ e with state := s, beforeCancel := none }, .reinstate)
    | _, _ => none
  | .platform new =>
    match e.held with
    | none => none
    | some h =>
      if e.state = .departed ∨ e.state = .passed ∨ new < 1 ∨ 4 < new ∨ new = h.call.platform then none
      else some ({ e with held := some (h.onPlatform new) }, .platform h.call.platform new)

/-- The notice of a service action (R64). -/
def serviceNotice (a b : Entry) (cause : NoticeCause) : EntryNotice :=
  { train := a.train, date := a.date, cause := cause, stateBefore := a.state, stateAfter := b.state,
    indexBefore := a.lastIndex, indexAfter := b.lastIndex }

/-- A service action on the entry of train `t`, already touched. -/
def Device.serviceAct (t : Nat) (a : ServiceAction) (d : Device) : Device :=
  match (d.entry? t).bind (fun e => (e.service a).map (fun r => (e, r))) with
  | some (e, (e', cause)) => (d.updateEntry t (fun _ => e')).deliver (serviceNotice e e' cause)
  | none => d

/-- The Running Table takes a SERVICE frame: the train is entered if it has no entry, touched, and the action carried out
(R65). -/
def Device.serviceFrame (t : Nat) (data : List Byte) (d : Device) : Device :=
  match ServiceAction.ofData data with
  | some a => ((d.ensureEntry t).touch t).serviceAct t a
  | none => (d.ensureEntry t).touch t

/-! ## STOPACK (R69, R104) -/

/-- A STOPACK for this halt: the touch, and the Stop Request Unit's part. -/
def Device.stopAckFrame (t : Nat) (d : Device) : Device := (d.touch t).takeStopAck t

/-! ## The sweep (R70 to R73) -/

/-- The time after which an entry is removed at a sweep, for the rows of R71 that test a time. -/
def Entry.sweepLimit (e : Entry) : Option Nat :=
  match e.state, e.held with
  | .cancelled, some h => some (h.call.schedDep + 300)
  | .expected, some h => some (h.call.schedDep + 7200)
  | .running, some h | .approaching, some h =>
    if e.overdue then e.firstOverdue.map (fun a => a + 3600)
    else some ((e.forecast.map Forecast.departure).getD h.call.schedDep + 3600)
  | .atHalt, _ => e.haltArrival.map (fun a => a + 3600)
  | _, _ => none

/-- Whether the sweep removes an entry whose entry time is `n` (R71). -/
def Entry.swept (n : Int) (e : Entry) : Bool :=
  match e.state, e.held with
  | .departed, _ | .passed, _ => true
  | .cancelled, none => true
  | .expected, none | .running, none => e.stale && !e.touched
  | _, _ => e.sweepLimit.any (fun l => decide ((l : Int) < n))

/-- Idle sweeps, STALE and touched after a sweep (R72). -/
def Entry.aged (e : Entry) : Entry :=
  if e.touched then { e with idleSweeps := 0, stale := false, touched := false }
  else { e with idleSweeps := min 3 (e.idleSweeps + 1), stale := e.stale || decide (min 3 (e.idleSweeps + 1) = 3),
                touched := false }

/-- The trains that the sweep removes (R71). -/
def Device.sweepVictims (d : Device) : List Nat := (d.table.entries.filter (fun e => e.swept (d.entryTime e))).map Entry.train

/-- Clears TABLE_FULL (R73). -/
def Device.clearTableFull (d : Device) : Device := { d with table := { d.table with full := false } }

/-- Ages every entry left (R72). -/
def Device.ageEntries (d : Device) : Device :=
  { d with table := { d.table with entries := d.table.entries.map Entry.aged } }

/-- The sweep: the removals, in an order the spec leaves open, TABLE_FULL, and the ageing of the entries left (R71 to R73). -/
def Device.sweep (d : Device) : Device :=
  ((d.forAll d.sweepVictims Device.removeTrain).when (!d.sweepVictims.isEmpty) Device.clearTableFull).ageEntries

end Sys2Proof.Machine
end

