-- ==== Sys2Proof/Machine/Sale.lean ====
section
/-!
DEFINITION. The Sale Unit (R119 to R133): quotes and their expiry, the departure lookup, QUOTE, CANCEL_QUOTE, ISSUE and VOID.
-/

namespace Sys2Proof.Machine

/-! ## Quote slots (R124, R125) -/

/-- The two quote slots. -/
inductive QuoteSlot where
  | a
  | b
deriving DecidableEq, Repr

/-- Writes the Sale Unit. -/
def Device.setSale (u : SaleUnit) (d : Device) : Device := { d with sale := u }

def SaleUnit.setSlot (u : SaleUnit) (k : QuoteSlot) (q : Option Quote) : SaleUnit :=
  match k with
  | .a => { u with slotA := q }
  | .b => { u with slotB := q }

/-- Whether a quote's expiry has passed (R125). -/
def Quote.expired (d : Device) (q : Quote) : Bool := decide ((q.expiry : Int) < d.timeFrom q.date)

/-- A slot after the expiry test. -/
def unexpired (d : Device) (s : Option Quote) : Option Quote := s.filter (fun q => !q.expired d)

/-- The expiry test of both slots (R125). -/
def Device.closeExpired (d : Device) : Device :=
  (d.setSale { d.sale with slotA := unexpired d d.sale.slotA, slotB := unexpired d d.sale.slotB }).setFlagIf
    (d.sale.slotA.any (fun q => q.expired d) || d.sale.slotB.any (fun q => q.expired d)) .quoteExpired

/-- The open quote of a number, with its slot; slot A's where both have it (log 26). -/
def SaleUnit.openQuote? (u : SaleUnit) (k : Nat) : Option (QuoteSlot × Quote) :=
  match u.slotA.filter (fun q => q.number == k), u.slotB.filter (fun q => q.number == k) with
  | some q, _ => some (.a, q)
  | none, some q => some (.b, q)
  | none, none => none

/-- Closes the quote in a slot. -/
def Device.closeQuote (k : QuoteSlot) (d : Device) : Device := d.setSale (d.sale.setSlot k none)

/-- A reply to one of the four sale commands: the sales state at the command's end is its first datum (R135, R192, log 18). -/
def saleReply (r : Reply) (d : Device) : Device × Reply :=
  (d, { r with data := be8 d.sale.state.code ++ r.data })

/-! ## The departure lookup (R119) -/

inductive Departure where
  | notFound
  | gone
  | cancelled (e : Entry) (c : CallRec)
  | found (e : Option Entry) (c : CallRec)
deriving DecidableEq, Repr

/-- The departure lookup of train `t` (R119). -/
def Device.departure (d : Device) (t : Nat) : Departure :=
  match d.entry? t with
  | some e =>
    match e.held with
    | none => .notFound
    | some h =>
      match e.state with
      | .departed | .passed => .gone
      | .cancelled => .cancelled e h.call
      | .expected | .running | .approaching | .atHalt => .found (some e) h.call
  | none =>
    if t ∈ d.board.finished then .gone
    else
      match d.tt.lookup d.today t with
      | none => .notFound
      | some h => if d.now ≤ h.call.schedDep + 7200 then .found none h.call else .gone

/-- Whether a found call is a REQUEST call whose cutoff is passed and whose stop is not CONFIRMED (R119, R123, R128). -/
def tooLate (e : Option Entry) (c : CallRec) : Bool := e.any (fun x => cutoffPassed x c && x.stop != .confirmed)

/-- Whether the stop of a found train is CONFIRMED (R119). -/
def stopConfirmed (e : Option Entry) : Bool := e.any (fun x => x.stop == .confirmed)

/-! ## QUOTE (R120 to R124) -/

/-- What QUOTE asks for. -/
structure QuoteAsk where
  dest : Nat
  type : TicketType
  cls : TicketClass
  count : Nat
  train : Option Nat
deriving DecidableEq, Repr

/-- The parameters of QUOTE, or none where one is out of range (R123). -/
def QuoteAsk.parse (ps : List Byte) : Option QuoteAsk :=
  match TicketType.ofCode (byteAt ps 2), TicketClass.ofCode (byteAt ps 3) with
  | some t, some c =>
    if inRange 1 999 (u16At ps 0) && inRange 1 9 (byteAt ps 4) && decide (u16At ps 5 ≤ 9999) then
      some { dest := u16At ps 0, type := t, cls := c, count := byteAt ps 4,
             train := if u16At ps 5 = 0 then none else some (u16At ps 5) }
    else none
  | _, _ => none

/-- A priced quote: the fare, the discount and the price, with the destination, band and request-stop flag (R120 to R122). -/
structure Priced where
  dest : FareDest
  band : Band
  fare : Nat
  discount : Nat
  price : Nat
  requestStop : Bool
deriving DecidableEq, Repr

/-- Refusals 5 to 8 on a train reference, or the call found (R123). -/
def Device.quoteDeparture (d : Device) (t : Nat) : Except Reason CallRec :=
  match d.departure t with
  | .notFound | .gone => .error .departureUnknown
  | .cancelled _ _ => .error .trainCancelled
  | .found e c =>
    if tooLate e c then .error .tooLate
    else if c.kind = .pass then .error .passTrain
    else .ok c

/-- Pricing, with refusal 9 (R120 to R123). -/
def QuoteAsk.price (a : QuoteAsk) (x : FareDest) (r : FareRules) (date : Date) (reference : Nat) (request : Bool) :
    Except Reason Priced :=
  let b := r.band date reference
  let p := r.fare x.base a.type a.cls b
  if 999990 < p * a.count then .error .notSold
  else
    .ok { dest := x, band := b, fare := p, discount := r.discount (p * a.count) a.count,
          price := p * a.count - r.discount (p * a.count) a.count, requestStop := request }

/-- The refusals of QUOTE in their order, and the pricing of one that passes (R123, log 37). -/
def Device.quoteJudged (d : Device) (a : QuoteAsk) : Except Reason Priced :=
  if d.sale.state = .closed ∨ d.sale.state = .suspended then .error .salesClosed
  else if d.sale.state = .restricted ∧ a.type ≠ .single then .error .journalLow
  else
    match d.fares.active.find? a.dest, d.fares.active.rules with
    | some x, some r =>
      if x.base = 0 then .error .notSold
      else if r.classFactor a.cls = 0 then .error .classNotOffered
      else
        match a.train with
        | none => a.price x r d.today d.now false
        | some t =>
          match d.quoteDeparture t with
          | .error e => .error e
          | .ok c => a.price x r d.today c.schedDep (c.kind == .request)
    | _, _ => .error .notSold

/-- The quote number after one, from 255 to 1 (R124). -/
def nextNumber (n : Nat) : Nat := if 255 ≤ n then 1 else n + 1

/-- A slot's quote is no longer the later of two. -/
def earlier (s : Option Quote) : Option Quote := s.map (fun q => { q with later := false })

/-- The slot a new quote goes into, and the number of the quote it replaces (R124). -/
def SaleUnit.place (u : SaleUnit) : QuoteSlot × Option Nat :=
  match u.slotA, u.slotB with
  | none, _ => (.a, none)
  | some _, none => (.b, none)
  | some x, some y => if x.later then (.b, some y.number) else (.a, some x.number)

/-- The Sale Unit with a new quote opened (R124). -/
def SaleUnit.openIn (u : SaleUnit) (k : QuoteSlot) (q : Quote) : SaleUnit :=
  match k with
  | .a => { u with slotA := some { q with later := u.slotB.isSome }, slotB := earlier u.slotB, nextQuote := nextNumber u.nextQuote }
  | .b => { u with slotB := some { q with later := u.slotA.isSome }, slotA := earlier u.slotA, nextQuote := nextNumber u.nextQuote }

/-- The quote record of a priced quote (R124). -/
def Device.quoteFrom (d : Device) (a : QuoteAsk) (x : Priced) : Quote :=
  { number := d.sale.nextQuote, destCode := a.dest, destName := x.dest.name, type := a.type, cls := a.cls, count := a.count,
    train := a.train, generation := d.fares.generation, band := x.band, price := x.price, date := d.today,
    expiry := d.now + 120, requestStop := x.requestStop, later := false }

/-- The clock time, as a second from 00:00, of a time counted from 03:00 (log 15). -/
def clockTime (t : Nat) : Nat := (t + 10800) % 86400

/-- The data of a QUOTE response after the sales state (R124, log 15, log 36). -/
def quoteData (q : Quote) (x : Priced) (replaced : Option Nat) : List Byte :=
  be8 q.number ++ be24 x.fare ++ be24 x.discount ++ be24 x.price ++ be8 x.band.code ++ be8 q.generation.toNat
    ++ be24 (clockTime q.expiry) ++ beFlag q.requestStop ++ beFlag replaced.isSome ++ be8Or0 replaced

/-- QUOTE (R123, R124); the expiry test is made before it (R125). -/
def runQuote (ps : List Byte) (d : Device) : Device × Reply :=
  match QuoteAsk.parse ps with
  | none => saleReply (.badParam []) d
  | some a =>
    match d.quoteJudged a with
    | .error e => saleReply (.refused e []) d
    | .ok x =>
      saleReply (.ok (quoteData (d.quoteFrom a x) x d.sale.place.2))
        (d.setSale (d.sale.openIn d.sale.place.1 (d.quoteFrom a x)))

/-! ## CANCEL_QUOTE (R126) -/

/-- CANCEL_QUOTE (R126). -/
def runCancelQuote (ps : List Byte) (d : Device) : Device × Reply :=
  if byteAt ps 0 = 0 then saleReply (.badParam []) d
  else
    match d.sale.openQuote? (byteAt ps 0) with
    | some (k, _) => saleReply (.ok []) (d.closeQuote k)
    | none => saleReply (.refused .quoteUnknown []) d

/-! ## ISSUE (R127 to R130) -/

/-- A refusal of ISSUE that closes the quote or keeps it. -/
structure IssueRefusal where
  reason : Reason
  datum : List Byte
  closes : Bool
deriving DecidableEq, Repr

def IssueRefusal.closing (r : Reason) : IssueRefusal := { reason := r, datum := [], closes := true }

def IssueRefusal.keeping (r : Reason) : IssueRefusal := { reason := r, datum := [], closes := false }

/-- Checks 2 to 6 of ISSUE (R127, R128). -/
def Device.issueChecks (d : Device) (q : Quote) (amount : Nat) : Option IssueRefusal :=
  if q.generation ≠ d.fares.generation then
    some { reason := .quoteStale, datum := be8 d.fares.generation.toNat, closes := true }
  else if amount ≠ q.price then some { reason := .amountMismatch, datum := be24 q.price, closes := false }
  else if d.sale.state = .closed ∨ d.sale.state = .suspended then some (.keeping .salesClosed)
  else if d.sale.state = .restricted ∧ q.type ≠ .single then some (.keeping .journalLow)
  else if d.journal.free < 2 then some (.keeping .salesClosed)
  else none

/-- Checks 7 to 10 of ISSUE, or the entry and the call found (R128). -/
def Device.issueDeparture (d : Device) (t : Nat) : Except IssueRefusal (Option Entry × CallRec) :=
  match d.departure t with
  | .notFound | .gone => .error (.closing .departureGone)
  | .cancelled _ _ => .error (.closing .trainCancelled)
  | .found e c =>
    if c.kind = .pass then .error (.closing .departureGone)
    else if tooLate e c then .error (.closing .tooLate)
    else if c.kind = .request ∧ d.line.state = .down ∧ !stopConfirmed e then .error (.closing .stopUnavailable)
    else .ok (e, c)

/-- The call that an ISSUE is made for: none for an open ticket. Check 11 asks the Running Table to enter the train of a
REQUEST call without an entry, and an entry it makes stands (R128). -/
def Device.issueCall (d : Device) (q : Quote) : Except IssueRefusal (Option CallRec) × Device :=
  match q.train with
  | none => (.ok none, d)
  | some t =>
    match d.issueDeparture t with
    | .error r => (.error r, d)
    | .ok (e, c) =>
      if c.kind = .request ∧ e.isNone then
        match d.askEnter t with
        | (.tableFull, d') => (.error (.keeping .tableFull), d')
        | (_, d') => (.ok (some c), d')
      else (.ok (some c), d)

/-- The fields of the SALE record of a quote (R129). -/
def Quote.saleFields (q : Quote) (pay : PayKind) : SaleFields :=
  { destCode := q.destCode, type := q.type, cls := q.cls, count := q.count, price := q.price, pay := pay, train := q.train,
    generation := q.generation }

/-- The date a ticket is valid until (R130). A RETURN whose destination the ACTIVE fare bank no longer holds adds 0 days: DESIGN
CHOICE (log 37). -/
def Device.validUntil (d : Device) (q : Quote) : Date :=
  match q.type with
  | .returnT => d.today + BitVec.ofNat 16 (((d.fares.active.find? q.destCode).map FareDest.validity).getD 0)
  | .single | .day => d.today

/-- The ticket, after its sales state (R130, R204). -/
def Device.ticket (d : Device) (q : Quote) (c : Option CallRec) (serial : Nat) : List Byte :=
  be24 serial ++ be16 d.today.toNat ++ be24 d.now ++ be16 d.halt.fareCode ++ be16 q.destCode ++ be8 q.type.code
    ++ be8 q.cls.code ++ be8 q.count ++ be24 q.price ++ be16 (d.validUntil q).toNat ++ be16Or0 q.train
    ++ be24? (c.map CallRec.schedDep) ++ be8 q.generation.toNat ++ beText q.destName

/-- The train of a REQUEST call that a ticket is for (R129, R132). -/
def requestTrain (q : Quote) (c : Option CallRec) : Option Nat :=
  if c.any (fun x => x.kind == .request) then q.train else none

/-- The last-sale record of an ISSUE (R132). -/
def Device.lastSaleOf (d : Device) (q : Quote) (c : Option CallRec) (pay : PayKind) (serial : Nat) : LastSale :=
  { serial := serial, date := d.today, second := d.now, price := q.price, pay := pay, train := requestTrain q c,
    count := q.count, voided := false }

/-- Sets the last-sale record. -/
def Device.setLastSale (x : LastSale) (d : Device) : Device := d.setSale { d.sale with lastSale := some x }

/-- Adds a ticket's passengers to its train's request, where it has one (R129). -/
def Device.addTicket (t : Option Nat) (n : Nat) (d : Device) : Device :=
  match t with
  | none => d
  | some t => d.addToRequest t n true

/-- An ISSUE that passes every check, under the serial given (R129). -/
def Device.issueTicket (k : QuoteSlot) (q : Quote) (c : Option CallRec) (pay : PayKind) (serial : Nat) (d : Device) : Device :=
  (((d.appendRecord serial (.sale (q.saleFields pay))).addTicket (requestTrain q c) q.count).closeQuote k).setLastSale
    (d.lastSaleOf q c pay serial)

/-- A refusal of ISSUE. -/
def refuseIssue (k : QuoteSlot) (r : IssueRefusal) (d : Device) : Device × Reply :=
  saleReply (.refused r.reason r.datum) (d.when r.closes (Device.closeQuote k))

/-- ISSUE with the open quote it names (R127 to R129, log 37). -/
def issueQuote (k : QuoteSlot) (q : Quote) (amount : Nat) (pay : PayKind) (d : Device) : Device × Reply :=
  match d.issueChecks q amount with
  | some r => refuseIssue k r d
  | none =>
    match d.issueCall q with
    | (.error r, d') => refuseIssue k r d'
    | (.ok c, d') =>
      match d'.journal.takesSale, d'.journal.nextSerial with
      | true, some serial => saleReply (.ok (d'.ticket q c serial)) (d'.issueTicket k q c pay serial)
      | _, _ => refuseIssue k (.keeping .salesClosed) d'

/-- ISSUE (R127); the expiry test is made before it (R125). -/
def runIssue (ps : List Byte) (d : Device) : Device × Reply :=
  match PayKind.ofCode (byteAt ps 4) with
  | none => saleReply (.badParam []) d
  | some pay =>
    if byteAt ps 0 = 0 ∨ 999990 < u24At ps 1 then saleReply (.badParam []) d
    else
      match d.sale.openQuote? (byteAt ps 0) with
      | none => saleReply (.refused .quoteUnknown []) d
      | some (k, q) => issueQuote k q (u24At ps 1) pay d

/-! ## VOID (R132, R133) -/

/-- Whether a record is the SALE record of a serial. -/
def JournalRec.isSaleOf (serial : Nat) (r : JournalRec) : Bool :=
  r.serial == serial && (match r.body with
    | .sale _ => true
    | .void _ => false)

/-- The last sale that a VOID of the serial takes (R133). -/
def Device.voidable (d : Device) (serial : Nat) : Option LastSale :=
  d.sale.lastSale.filter (fun x => x.serial == serial && !x.voided
    && decide (secondsBetween x.date x.second d.today d.now ≤ 60) && d.journal.records.any (JournalRec.isSaleOf serial)
    && d.journal.takesVoid)

/-- Takes a void's passengers from its train's request, where it has one (R133). -/
def Device.voidTicket (t : Option Nat) (n : Nat) (d : Device) : Device :=
  match t with
  | none => d
  | some t => d.voidFromRequest t n

/-- VOID (R133, log 37). -/
def runVoid (ps : List Byte) (d : Device) : Device × Reply :=
  if u24At ps 0 = 0 then saleReply (.badParam []) d
  else
    match d.voidable (u24At ps 0), d.journal.nextSerial with
    | some x, some serial =>
      saleReply (.ok (be24 serial ++ be24 x.serial ++ be24 x.price ++ be8 x.pay.code))
        (((d.appendRecord serial (.void x.serial)).setLastSale { x with voided := true }).voidTicket x.train x.count)
    | _, _ => saleReply (.refused .voidRefused []) d

end Sys2Proof.Machine
end

