-- ==== Sys2Proof/Machine/Clock.lean ====
section
/-!
DEFINITION. The Clock (R20 to R31): counting and ticks, time marks, SET_TIME, the hand-on of a change of clock state, and the
taking of each tick by the blocks that use it.
-/

namespace Sys2Proof.Machine

/-- Whether the part runs: outside a start and with power (R195). -/
def Device.running (d : Device) : Bool := d.phase == .running

/-- Writes the Clock. -/
def Device.setClock (c : Clock) (d : Device) : Device := { d with clock := c }

/-! ## Counting (R21, R22) -/

/-- The reading one second on (R21). -/
def Clock.counted (c : Clock) : Clock :=
  if c.second < 86399 then { c with second := c.second + 1 } else { c with second := 0, date := c.date + 1 }

/-- One more when `b` holds. -/
def addIf (b : Bool) (n : Nat) : Nat := if b then n + 1 else n

/-- The ticks that counting raises at the reading reached (R22). -/
def Clock.raiseCounted (c : Clock) : Clock :=
  { c with
    dueMinute := addIf (c.second % 60 == 0) c.dueMinute
    dueSweep := addIf (c.second % 600 == 0) c.dueSweep
    dueDay := addIf (c.second == 0) c.dueDay }

/-- Whether a candidate's window may still be open: an age of 120 s or less, or the second in which it passes 120, the moment
at which R27 takes a mark and the closing in either order (log 9). -/
def Candidate.openYet (k : Candidate) : Bool := decide (k.age ≤ 121)

/-- The sync age, counted only while SYNCED, and the candidate's age, one elapsed second on; a candidate whose window has closed
is gone (R21, R23, R26, R27, log 9). -/
def Clock.aged (c : Clock) : Clock :=
  { c with
    syncAge := if c.state = .synced then min 21600 (c.syncAge + 1) else c.syncAge
    candidate := (c.candidate.map (fun x => { x with age := x.age + 1 })).filter Candidate.openYet }

/-- The delay timer one elapsed second on; it stays at the delay once reached (R180, log 9). -/
def Changeover.elapse (c : Changeover) : Changeover :=
  { c with timer := c.timer.map (fun t => { t with elapsed := min c.delay (t.elapsed + 1) }) }

/-- One elapsed second: while the part runs the counter, its ticks and the counts of elapsed seconds; otherwise the counter
alone (R20, R21, R22). -/
def Device.second (d : Device) : Device :=
  if d.running then (d.setClock d.clock.counted.raiseCounted.aged).setCo d.co.elapse else d.setClock d.clock.counted

/-! ## A change of the clock state (R31) -/

/-- A change of the clock state handed to the Sale Unit, the Notice Store, the Forecast Unit and the Board Composer, in an
order the spec leaves open; `first` says whether the change is from UNSET to SYNCED (R31, R76, R134, R162, R168). -/
def Device.clockChanged (first : Bool) (d : Device) : Device :=
  d.forAll [Device.evalSales, Device.setSn3 (d.clock.state != .synced), Device.when first (Device.recomputeEvery false),
    Device.recompose] (fun f d => f d)

/-! ## Steps (R23, R25, R28 to R30) -/

/-- The time by which a step goes forward, 0 for a step that does not. -/
def Clock.forward (c : Clock) (x : Date) (s : Nat) : Nat := (secondsBetween c.date c.second x s).toNat

/-- Whether a multiple of `p` lies after the reading and up to the time stepped to (R29). -/
def Clock.crosses (c : Clock) (x : Date) (s p : Nat) : Bool := decide (c.second / p < (c.second + c.forward x s) / p)

/-- The Clock after a step to a date and second: SYNCED, the sync age restarted, the candidate discarded, and the ticks of
a forward step raised once each (R23, R29, R30). -/
def Clock.stepped (c : Clock) (x : Date) (s : Nat) : Clock :=
  { date := x
    second := s
    state := .synced
    syncAge := 0
    candidate := none
    dueMinute := addIf (c.crosses x s 60) c.dueMinute
    dueSweep := addIf (c.crosses x s 600) c.dueSweep
    dueDay := addIf (decide (0 < c.forward x s) && decide (0 < dateDiff x c.date)) c.dueDay }

/-- A step of the clock, with the hand-on of a change of its state (R23, R31). -/
def Device.stepClock (x : Date) (s : Nat) (d : Device) : Device :=
  (d.setClock (d.clock.stepped x s)).when (d.clock.state != .synced) (Device.clockChanged (d.clock.state == .unset))

/-! ## Time marks (R24 to R26) -/

/-- What a time mark does (R24). -/
inductive MarkJudgement where
  | ignored
  | step
  | held
deriving DecidableEq, Repr

/-- Whether a mark agrees with an open candidate: within 2 s of its expected time (R26, R27). -/
def Candidate.agrees (k : Candidate) (x : Date) (s : Nat) : Bool :=
  k.openYet && decide (-2 ≤ secondsBetween k.date k.second x s - (k.age : Int)) && decide (secondsBetween k.date k.second x s - (k.age : Int) ≤ 2)

/-- The judgement of a time mark by the tests in their order (R24). -/
def Clock.judge (c : Clock) (x : Date) (s : Nat) : MarkJudgement :=
  if 86399 < s then .ignored
  else if c.state = .unset then .step
  else if dateDiff x c.date < 0 then .ignored
  else if -300 ≤ secondsBetween c.date c.second x s ∧ secondsBetween c.date c.second x s ≤ 300 then .step
  else if c.candidate.any (fun k => k.agrees x s) then .step
  else .held

/-- The Clock takes a time mark (R24 to R26). -/
def Device.timeMark (data : List Byte) (d : Device) : Device :=
  let x : Date := BitVec.ofNat 16 (u16At data 0)
  let s := u24At data 2
  match d.clock.judge x s with
  | .ignored => d
  | .step => d.stepClock x s
  | .held => d.setClock { d.clock with candidate := some { date := x, second := s, age := 0 } }

/-- The candidate is discarded when its age has passed 120 s (R27); the row is the closing of its window, which a mark of the same
second may come before (log 9). -/
def Device.candidateClose (d : Device) : Device :=
  if d.clock.candidate.any (fun k => decide (120 < k.age)) then d.setClock { d.clock with candidate := none } else d

/-- The clock becomes FREE when the sync age has reached 21600 s (R23). -/
def Device.syncExpiry (d : Device) : Device :=
  if d.clock.state = .synced ∧ 21600 ≤ d.clock.syncAge then
    (d.setClock { d.clock with state := .free, syncAge := 0 }).clockChanged false
  else d

/-- SET_TIME (R28). -/
def runSetTime (ps : List Byte) (d : Device) : Device × Reply :=
  if 86399 < u24At ps 2 then (d, .badParam [])
  else
    (d.stepClock (BitVec.ofNat 16 (u16At ps 0)) (u24At ps 2),
      .ok (be16 d.clock.date.toNat ++ be24 d.clock.second ++ be8 d.clock.state.code))

/-! ## The taking of ticks (R22, log 8) -/

/-- A due minute tick taken by the blocks that use it, in an order the spec leaves open (R22). -/
def Device.minuteTick (d : Device) : Device :=
  if d.clock.dueMinute = 0 then d
  else
    (d.setClock { d.clock with dueMinute := d.clock.dueMinute - 1 }).forAll
      [Device.forecastMinute, Device.closeExpired, Device.boardMinute, Device.noticeMinute, Device.lastCallTest] (fun f d => f d)

/-- A due sweep tick taken by the Running Table (R71). -/
def Device.sweepTick (d : Device) : Device :=
  if d.clock.dueSweep = 0 then d else (d.setClock { d.clock with dueSweep := d.clock.dueSweep - 1 }).sweep

/-- A due day boundary taken by the Board Composer and the Change-over Unit (R22, R156). Where the trigger starts a delay of 0,
R177 leaves open whether the apply comes before the rebuild: a free choice takes the expiry here, before it, or leaves it to
DELAY_EXPIRY (log 45). -/
def Device.dayTick (d : Device) : Device :=
  if d.clock.dueDay = 0 then d
  else
    let c := (d.setClock { d.clock with dueDay := d.clock.dueDay - 1 }).freeChoice
    if c.1 && c.2.co.startsSpent then c.2.dayTrigger.delayExpiry.boardDay else c.2.boardDay.dayTrigger

/-- The Sale Unit's taking of a due minute tick before the other blocks take it (R125, log 10). -/
def Device.quoteTick (d : Device) : Device := d.when (d.clock.dueMinute != 0) Device.closeExpired

/-- The Notice Store's taking of a due minute tick before the other blocks take it (R167, log 10). -/
def Device.noticeTick (d : Device) : Device := d.when (d.clock.dueMinute != 0) Device.noticeMinute

end Sys2Proof.Machine
end

