-- ==== Sys2Proof/Machine/Frames.lean ====
section
/-!
DEFINITION. The line and button events (R32, R36, R38 to R40, R43 to R46, R49, R95 to R98): an arrival with its filtering
and dispatch, the attempts of the transmitter, RESTART_LINE, and the request buttons and lamps.
-/

namespace Sys2Proof.Machine

/-! ## Arrivals (R36, R38 to R40) -/

/-- A train field that RUN, SERVICE and STOPACK frames may carry (R39). -/
def trainOk (t : Nat) : Bool := decide (1 ≤ t) && decide (t ≤ 9999)

/-- An accepted frame dispatched by its kind; every other frame is discarded (R34, R39, R40). A SERVICE frame with fewer
data bytes than it needs is discarded by R39 and touch only by R65: which of the two is free (log 5). -/
def Device.dispatch (f : LineFrame) (d : Device) : Device :=
  match f.kind.toNat with
  | 1 => d.when (trainOk f.train.toNat && decide (5 ≤ f.data.length)) (Device.runFrame f.train.toNat f.point.toNat f.data)
  | 2 =>
    d.when (trainOk f.train.toNat && (decide (2 ≤ f.data.length) || Config.shortServiceTaken))
      (Device.serviceFrame f.train.toNat f.data)
  | 3 => d.when (decide (5 ≤ f.data.length)) (Device.timeMark f.data)
  | 5 => d.when (trainOk f.train.toNat && f.point.toNat == d.halt.ownPoint) (Device.stopAckFrame f.train.toNat)
  | 6 => d.when (decide (2 ≤ f.data.length)) (Device.lineNotice f.data)
  | _ => d

/-- Writes the last hit (R36). -/
def Device.setLastHit (h : Option Nat) (d : Device) : Device := d.setLine { d.line with lastHit := h }

/-- The arrival of a frame while the part runs: the last hit, and for an accepted frame the line state and the dispatch
(R36, R38, R39). -/
def Device.arrival (f : LineFrame) (d : Device) : Device :=
  if d.line.accepts f.ident then (d.setLastHit (d.line.hitOf f.ident)).returnLine (Device.dispatch f)
  else d.setLastHit (d.line.hitOf f.ident)

/-- An arrival is taken only while the part runs; during a start frames are discarded (R195). -/
def Device.lineEvent (f : LineFrame) (d : Device) : Device := d.when d.running (Device.arrival f)

/-! ## Attempts (R43 to R46) -/

/-- The transmitter starts an attempt (R43). -/
def Device.attemptStart (d : Device) : Device := d.setLine d.line.startAttempt

/-- The train of a slot. -/
def Line.trainIn (l : Line) (k : SlotId) : Nat := ((l.slot k).map TxFrame.train).getD 0

/-- An acknowledged attempt: the slot empties, the count is 0, the line is up, and the Stop Request Unit takes ACKNOWLEDGED
(R44, R102). An end without an attempt under way is discarded (R49, log 22); an end row names no attempt, and one that comes while
an attempt is under way is that attempt's end: DESIGN CHOICE (log 46). -/
def Device.attemptAcknowledged (d : Device) : Device :=
  match d.line.attempt with
  | none => d
  | some k =>
    (d.setLine { (d.line.ended k).setSlot k none with failures := 0 }).returnLine (Device.takeAcknowledged (d.line.trainIn k))

/-- Whether the attempt under way in slot `k` is the frame's last (R45). -/
def Line.lastTry (l : Line) (k : SlotId) : Bool := (l.slot k).any (fun f => (failOnce f).isNone)

/-- An attempt that ends without acknowledgement: one failed attempt more; at the sixteenth the frame has failed, the count
rises and the Stop Request Unit takes FAILED, which is a selection (R45, R46, R102). Which attempt an end row ends is chosen as
for an acknowledgement (log 22, log 46). -/
def Device.attemptNotAcknowledged (d : Device) : Device :=
  match d.line.attempt with
  | none => d
  | some k =>
    (d.setLine ((d.line.ended k).setSlot k ((d.line.slot k).bind failOnce))).when (d.line.lastTry k)
      (fun d => d.countFailure.selection)

/-! ## RESTART_LINE (R49, R110) -/

/-- The number of QUEUED slots. -/
def Line.queued (l : Line) : Nat := (if l.slot0.isSome then 1 else 0) + (if l.slot1.isSome then 1 else 0)

/-- RESTART_LINE (R49). -/
def runRestartLine (_ps : List Byte) (d : Device) : Device × Reply :=
  (((d.setLine d.line.emptied).setLineState .up).when (decide (0 < d.line.queued)) Device.selection,
    .ok (be8 d.line.queued ++ be8 d.line.state.code))

/-! ## Buttons and lamps (R95 to R98) -/

/-- Gives a button its chosen train, with its lamp worked out afresh (R97, R98). -/
def Device.choose (dir : Direction) (t : Nat) (d : Device) : Device :=
  d.setButton dir (({ d.button dir with chosen := some t } : Button).withMode (d.lampModeFor (some t)))

/-- What a press does on the entry of the train chosen (R97). -/
def Device.pressOn (dir : Direction) (t : Nat) (d : Device) : Device := (d.addToRequest t 1 false).choose dir t

/-- A press taken (R96, R97). -/
def Device.takePress (dir : Direction) (d : Device) : Device :=
  match d.pressChoice dir with
  | none => d
  | some c =>
    if c.entered then d.pressOn dir c.train
    else
      match d.askEnter c.train with
      | (.entered, d') => d'.pressOn dir c.train
      | (.exists, d') => d'.when ((d'.entry? c.train).any (Entry.pressable dir)) (Device.pressOn dir c.train)
      | (.notListed, d') | (.tableFull, d') => d'

/-- Writes a button's state. -/
def Device.setButtonState (dir : Direction) (s : ButtonState) (d : Device) : Device :=
  d.setButton dir { d.button dir with state := s }

/-- A debounced press: taken only from RELEASED (R95, R96). -/
def Device.press (dir : Direction) (d : Device) : Device :=
  if (d.button dir).state = .released then (d.setButtonState dir .pressed).takePress dir else d

/-- A debounced release (R95). -/
def Device.release (dir : Direction) (d : Device) : Device := d.setButtonState dir .released

/-- A half period of a Flashing lamp (R98). -/
def Device.lampFlash (dir : Direction) (d : Device) : Device :=
  if (d.button dir).lamp = .flashing then d.setButton dir { d.button dir with lit := !(d.button dir).lit } else d

end Sys2Proof.Machine
end

