-- ==== Sys2Proof/Machine/Reading.lean ====
section
/-!
DEFINITION. The commands that read state (R162, R200, R201): the bytes of pages, rows and departures (R203), READ_PAGE,
READ_DEPARTURES and READ_STATUS. None of them changes anything.
-/

namespace Sys2Proof.Machine

/-! ## Rows (R160, R203) -/

def StatusWord.code : StatusWord → Nat
  | .none => 0
  | .onTime => 1
  | .exp _ => 2
  | .delayed => 3
  | .cancelled => 4

/-- The expected clock minute: with "Exp", and all bits set otherwise (R203). -/
def StatusWord.expected : StatusWord → List Byte
  | .exp m => be16 m
  | .none | .onTime | .delayed | .cancelled => [0xFF, 0xFF]

def Countdown.code : Countdown → Nat
  | .none => 255
  | .due => 254
  | .minutes n => n

def StopText.code : StopText → Nat
  | .requestStop => 1
  | .stopRequested => 2
  | .stopping => 3
  | .mayNotStop => 4

/-- A row (R203). -/
def Row.bytes (r : Row) : List Byte :=
  be16 r.train ++ be16 (clockMinute r.schedMinute) ++ be8 r.platform ++ be8 r.status.code ++ r.status.expected
    ++ be8 r.countdown.code ++ be8 ((r.stopText.map StopText.code).getD 0) ++ beText r.dest

/-! ## Pages (R159, R161, R203) -/

/-- The codes of an ASCII text. -/
def ascii (s : String) : Text := s.toList.map (fun c => BitVec.ofNat 8 c.toNat)

/-- The fixed text of system notice SNk (R168); the dash of SN1 and SN2 has a free code (log 14). -/
def systemText (k : Nat) : Text :=
  match k with
  | 1 => ascii "Ticket machine out of use " ++ [Config.dashCode] ++ ascii " please buy on the train"
  | 2 => ascii "Request stop service unavailable " ++ [Config.dashCode] ++ ascii " signal the driver"
  | _ => ascii "Times shown may not be accurate"

/-- A notice id, its priority and its text (R203). -/
def TickerEntry.bytes : TickerEntry → List Byte
  | .system k => be16 (256 + k) ++ be8 3 ++ beText (systemText k)
  | .stored n p t => be16 n ++ be8 p ++ beText t

/-- The body of a page, with its kind (R203). -/
def PageBody.bytes : PageBody → List Byte
  | .none => be8 0
  | .rows rs => be8 1 ++ be8 rs.length ++ rs.flatMap Row.bytes
  | .noTrains => be8 2
  | .takeover t => be8 3 ++ t.bytes

/-- A page as READ_PAGE lays it out (R203). -/
def Screen.pageBytes (k : Nat) (s : Screen) : List Byte :=
  be8 k ++ be16 s.seq.toNat ++ beFlag s.page.blank ++ (s.page.clockMinute.map be16).getD [0xFF, 0xFF] ++ beText s.page.haltName
    ++ s.page.body.bytes ++ be8 s.page.ticker.length ++ s.page.ticker.flatMap TickerEntry.bytes

/-- READ_PAGE (R162). -/
def runReadPage (ps : List Byte) (d : Device) : Device × Reply :=
  match d.board.screens[byteAt ps 0]? with
  | some s => (d, .ok (s.pageBytes (byteAt ps 0)))
  | none => (d, .badParam [])

/-! ## Departures (R200, R203, log 29) -/

/-- What READ_DEPARTURES lists: an entry, or a day-list call whose train has none. -/
inductive DepartureItem where
  | entry (e : Entry)
  | call (h : HeldCall)
deriving DecidableEq, Repr

/-- A forecast's F, A and Dep; absent ones are sent with all bits set, F too, which R202 does not say of a delay: DESIGN CHOICE
(R200, log 15). -/
def forecastBytes : Option Forecast → List Byte
  | some f => be24Int f.delay ++ be24 f.arrival ++ be24 f.departure
  | none => be24? none ++ be24? none ++ be24? none

/-- The flags byte of an entry (R203). -/
def Entry.flagByte (e : Entry) : List Byte :=
  be8 ((if e.overdue then 1 else 0) + (if e.overdueLong then 2 else 0) + (if e.stale then 4 else 0)
    + (if e.delayCued then 8 else 0))

/-- The row of an UNLISTED entry: its train number, and every other field absent (R200, log 29). -/
def unlistedRow (t : Nat) : List Byte := be16 t ++ [0xFF, 0xFF] ++ be8 0 ++ be8 0 ++ [0xFF, 0xFF] ++ be8 255 ++ be8 0 ++ be8 0

/-- The departure of an entry (R200, R203). -/
def Device.entryDeparture (d : Device) (e : Entry) : List Byte :=
  match e.held with
  | some h =>
    (e.row d.clock.state (d.entryTime e) h).bytes ++ be8 1 ++ be8 1 ++ be8 e.state.code ++ be8Or0 e.lastIndex
      ++ forecastBytes e.forecast ++ e.flagByte ++ be8 e.stop.code ++ be8 e.waiting
  | none =>
    unlistedRow e.train ++ be8 1 ++ be8 2 ++ be8 e.state.code ++ be8 0 ++ forecastBytes none ++ be8 0 ++ be8 0 ++ be8 0

/-- The departure of a day-list call (R91, R200, log 29). -/
def Device.callDeparture (d : Device) (h : HeldCall) : List Byte :=
  (h.row d.clock.state d.halt.dwell d.now).bytes ++ be8 2 ++ be8 0 ++ be8 0 ++ be8 0
    ++ forecastBytes (some (h.call.timetableForecast d.halt.dwell)) ++ be8 0 ++ be8 StopState.none.code ++ be8 0

def Device.departureBytes (d : Device) : DepartureItem → List Byte
  | .entry e => d.entryDeparture e
  | .call h => d.callDeparture h

/-- The key of a departure: S_d, less 86400 for each day back, then the train number (R200). -/
structure DepartureKey where
  sched : Int
  train : Nat
  item : DepartureItem
deriving DecidableEq, Repr

def DepartureKey.before (a b : DepartureKey) : Bool :=
  decide (a.sched < b.sched) || (decide (a.sched = b.sched) && decide (a.train < b.train))

/-- A LISTED entry of today or of an earlier date as a candidate in a direction (R200). -/
def Device.entryKey (d : Device) (dir : Direction) (e : Entry) : Option DepartureKey :=
  match e.held with
  | none => none
  | some h =>
    if h.call.direction = dir ∧ dateDiff e.date d.today ≤ 0 ∧ e.listable (d.entryTime e) h.call then
      some { sched := (h.call.schedDep : Int) + dateDiff e.date d.today * 86400, train := e.train, item := .entry e }
    else none

/-- A day-list call as a candidate in a direction (R154, R200). -/
def Device.callKey (d : Device) (dir : Direction) (h : HeldCall) : Option DepartureKey :=
  if h.call.direction = dir ∧ d.now ≤ h.call.schedDep + 300 ∧ (d.todayEntry? h.call.train).isNone
      ∧ h.call.train ∉ d.board.finished then
    some { sched := h.call.schedDep, train := h.call.train, item := .call h }
  else none

/-- The first item of each train. -/
def onceEach (ks : List DepartureKey) : List DepartureKey :=
  ks.foldl (fun acc k => if acc.any (fun x => x.train == k.train) then acc else acc ++ [k]) []

/-- The departures of a direction in key order, each train once (R200). -/
def Device.departuresOf (d : Device) (dir : Direction) : List DepartureItem :=
  (onceEach (sortBy DepartureKey.before
    (d.table.entries.filterMap (d.entryKey dir) ++ (d.tt.dayList d.today).filterMap (d.callKey dir)))).map DepartureKey.item

/-- The one departure of a train (R200). -/
def Device.departureOf (d : Device) (t : Nat) : List DepartureItem :=
  match d.entry? t with
  | some e => [.entry e]
  | none => ((d.tt.lookup d.today t).map DepartureItem.call).toList

/-- READ_DEPARTURES (R200). A direction or count out of range is BAD_PARAM beside a train number from 1 to 9999 too: DEDUCED
(log 48). -/
def runReadDepartures (ps : List Byte) (d : Device) : Device × Reply :=
  match Direction.ofCode (byteAt ps 0) with
  | none => (d, .badParam [])
  | some dir =>
    if !inRange 1 8 (byteAt ps 1) || decide (9999 < u16At ps 2) then (d, .badParam [])
    else if u16At ps 2 = 0 then (d, .ok (((d.departuresOf dir).take (byteAt ps 1)).flatMap d.departureBytes))
    else (d, .ok ((d.departureOf (u16At ps 2)).flatMap d.departureBytes))

/-! ## Status sections (R201, R202, log 15) -/

/-- Section 1: the Clock (R31). -/
def Device.statusClock (d : Device) : List Byte :=
  be16 d.today.toNat ++ be24 d.now ++ be8 d.clock.state.code
    ++ (if d.clock.state = .synced then be16 d.clock.syncAge else [0xFF, 0xFF])
    ++ match d.clock.candidate with
      | some k => beFlag true ++ be16 k.date.toNat ++ be24 k.second ++ be8 k.age
      | none => beFlag false ++ beDate? none ++ be24? none ++ be8 255

def Filter.bytes (x : Filter) : List Byte := beFlag x.enabled ++ be32 x.code.toNat ++ be32 x.mask.toNat ++ be8 x.action.code

/-- A transmit slot: EMPTY 1 or QUEUED 2, its train, failed attempts and begun flag (R41). -/
def slotBytes : Option TxFrame → List Byte
  | none => be8 1 ++ be16 0 ++ be8 0 ++ beFlag false
  | some f => be8 2 ++ be16 f.train ++ be8 f.failed ++ beFlag f.begun

/-- Section 2: the Line Interface (R36, R41, R46, R47); a last hit of none is sent as 255, since 0 is a filter number. -/
def Device.statusLine (d : Device) : List Byte :=
  d.line.filters.flatMap Filter.bytes ++ be8 d.line.defaultAction.code ++ be8 (d.line.lastHit.getD 255)
    ++ slotBytes d.line.slot0 ++ slotBytes d.line.slot1 ++ be8 d.line.failures ++ be8 d.line.state.code

/-- A timetable bank header in the order of R1's report; an absent id is sent as 0: DESIGN CHOICE (log 15). -/
def TimetableBank.header (b : TimetableBank) : List Byte :=
  be16Or0 b.id ++ be8 b.state.code ++ be8 b.calls.length ++ be8 b.names.length

/-- A fare bank header in the order of R113's list; an absent id is sent as 0: DESIGN CHOICE (log 15). -/
def FareBank.header (b : FareBank) : List Byte :=
  be16Or0 b.id ++ be8 b.dests.length ++ beFlag b.rules.isSome ++ be8 b.state.code

/-- The delay timer: its cause and the seconds remaining (R175). -/
def Changeover.timerBytes (c : Changeover) : List Byte :=
  match c.timer with
  | some t => be8 t.cause.code ++ be16 (c.delay - t.elapsed)
  | none => be8 0 ++ [0xFF, 0xFF]

/-- The fields of the Change-over Unit in the order of R175's table. -/
def Changeover.bytes (c : Changeover) : List Byte :=
  be8 ((if c.onDayBoundary then 1 else 0) + (if c.onLastCall then 2 else 0)) ++ be16 c.delay ++ be8 c.skipSetting
    ++ be8 c.ttMode.code ++ be8 c.fareMode.code ++ beFlag c.armed ++ be8 c.skipCount ++ beDate? c.doneDate ++ be8 c.unit.code
    ++ c.timerBytes ++ resultData c.lastResult

/-- Section 3: the banks and the Change-over Unit (R1, R113, R175). -/
def Device.statusBanks (d : Device) : List Byte :=
  d.tt.active.header ++ d.tt.staged.header ++ d.fares.active.header ++ d.fares.staged.header ++ be8 d.fares.generation.toNat
    ++ d.co.bytes

/-- The next serial; three bytes cannot hold 16777216, for which a free value is sent (R142, R202, log 13). -/
def Journal.nextBytes (j : Journal) : List Byte :=
  match j.nextSerial with
  | none => be24? none
  | some n => if n = 16777216 then be24 Config.spentSerial.toNat else be24 n

/-- The screens that a notice is routed to (R163, R169). -/
def Device.routedCount (d : Device) (n : Notice) : Nat := (d.board.screens.filter (fun s => n.routed s)).length

def Device.noticeBytes (d : Device) (n : Notice) : List Byte :=
  be8 n.number ++ be8 n.kind.code ++ be8 n.priority ++ beFlag n.shown ++ beFlag n.inWindow ++ be8 (d.routedCount n)

/-- Section 4: the Record Store, the Journal and the Notice Store (R137, R142, R163). The notice block count, the counts of notices
and free blocks and the screens each notice is routed to take 1 byte each: DESIGN CHOICE (log 15). -/
def Device.statusRecords (d : Device) : List Byte :=
  be8 d.journal.partition ++ be8 d.journal.noticeBlocks ++ be8 d.notices.items.length ++ be16 d.journal.occupied
    ++ be16 d.journal.free ++ be24? d.journal.oldest ++ be24? d.journal.newest ++ d.journal.nextBytes
    ++ be8 d.journal.serialState.code ++ be16 d.halt.uploadMark ++ be24? d.journal.highest
    ++ be8 d.notices.items.length ++ be8 d.freeBlocks ++ d.notices.items.flatMap d.noticeBytes

def Screen.statusBytes (s : Screen) : List Byte :=
  beFlag s.enabled ++ be8 s.groups.toNat ++ be8 s.health.code ++ be16 s.seq.toNat

/-- Section 5: screens, groups and the cue count (R151, R152, R170). -/
def Device.statusBoard (d : Device) : List Byte :=
  d.board.screens.flatMap Screen.statusBytes ++ d.board.groups.flatMap (fun m => be8 m.toNat) ++ be8 d.cues.length

/-- The buttons, UP before DOWN: both button states, then the train each last chose, then the mode of each lamp (R95, R202). -/
def StopUnit.bytes (u : StopUnit) : List Byte :=
  be8 u.up.state.code ++ be8 u.down.state.code ++ be16Or0 u.up.chosen ++ be16Or0 u.down.chosen
    ++ be8 u.up.lamp.code ++ be8 u.down.lamp.code

/-- The halt settings, in the order and encoding of SET_HALT (R197, R204). -/
def HaltSettings.bytes (h : HaltSettings) : List Byte :=
  be16 h.ownPoint ++ beText h.name ++ be16 h.fareCode ++ be8 h.dwell ++ be16 h.early ++ be8 h.reserve ++ be16 h.uploadMark
    ++ beFlag h.enterUnlisted

/-- Section 6: the running table, the buttons, the halt settings, sales and the notify masks (R52, R95, R135, R197). -/
def Device.statusHalt (d : Device) : List Byte :=
  be8 d.table.entries.length ++ beFlag d.table.full ++ d.sru.bytes ++ d.halt.bytes
    ++ be8 d.sale.state.code ++ beFlag d.sale.closedFlag
    ++ [d.ports.sale.mask, d.ports.board.mask, d.ports.office.mask]

/-- The status section of a number (R201). -/
def Device.section? (d : Device) : Nat → Option (List Byte)
  | 1 => some d.statusClock
  | 2 => some d.statusLine
  | 3 => some d.statusBanks
  | 4 => some d.statusRecords
  | 5 => some d.statusBoard
  | 6 => some d.statusHalt
  | _ => none

/-- READ_STATUS (R201). -/
def runReadStatus (ps : List Byte) (d : Device) : Device × Reply :=
  match d.section? (byteAt ps 0) with
  | some bs => (d, .ok bs)
  | none => (d, .badParam [])

end Sys2Proof.Machine
end

