-- ==== Sys2Proof/Machine/Ports.lean ====
section
/-!
DEFINITION. The master ports (R188 to R192, R195): command periods and their five tests, parts, read periods and responses,
the beginning of a start; and the commands that a port or the halt settings own (R174, R197 to R199).
-/

namespace Sys2Proof.Machine

/-! ## The beginning of a start (R195, R196) -/

/-- A port at the beginning of a start; the mask is stored and stays (R195, R198). -/
def Port.starting (x : Port) : Port :=
  { mode := .starting, inHand := none, buffer := none, segment := 0, assembly := none, notify := 0, mask := x.mask,
    lastOut := x.lastOut }

/-- A start begins: every port becomes STARTING, and ticks raised and not yet taken are lost, since a start raises none
(R20, R195). -/
def Device.beginStart (c : StartCause) (d : Device) : Device :=
  { d with
    phase := .starting c
    clock := { d.clock with dueMinute := 0, dueSweep := 0, dueDay := 0 }
    ports := { sale := d.ports.sale.starting, board := d.ports.board.starting, office := d.ports.office.starting } }

/-! ## Responses (R189, R191) -/

/-- The bytes the part clocks out in a period (log 16). -/
def Device.clockOut (p : PortId) (bs : List Byte) (d : Device) : Device := d.setPort p { d.port p with lastOut := bs }

/-- Places a response in a port's buffer: RESPONSE_READY (R188, R191). -/
def Device.place (p : PortId) (r : Response) (d : Device) : Device :=
  d.setPort p { d.port p with mode := .responseReady, buffer := some r, segment := 0, inHand := none }

/-- The response to a failed test, placed at once: the CMD byte and no data (R189). -/
def Device.placeError (p : PortId) (cmd : Byte) (st : Status) (d : Device) : Device :=
  d.place p { cmd := cmd, status := st, data := [], segmented := false }

/-- A command's response held until RESPONSE_PLACED places it: EXECUTING (R188, log 2). -/
def Device.hold (p : PortId) (r : Response) (d : Device) : Device :=
  d.setPort p { d.port p with mode := .executing, inHand := some r }

/-- A command's response: its status and data under its CMD (R192). -/
def Reply.response (r : Reply) (c : Cmd) : Response :=
  { cmd := c.code, status := r.status, data := r.data, segmented := c.segmented }

/-- The owning block carries a command out; on the Sale port the expiry test of R125 comes first (R189). -/
def Device.carryOut (p : PortId) (c : Cmd) (body : Device → Device × Reply) (d : Device) : Device :=
  let r := body (d.when (p == .sale) Device.closeExpired)
  r.1.hold p (r.2.response c)

/-! ## Command periods (R188, R189) -/

/-- A port takes a command: it is IDLE (R188). -/
def Device.idle (d : Device) (p : PortId) : Bool := (d.port p).mode == .idle

/-- A period of `n` clocked bytes on a port with power; a command period that meets a port not IDLE is discarded (R188). -/
def Device.inIdle (p : PortId) (n : Nat) (k : Device → Device) (d : Device) : Device :=
  if d.phase = .off then d
  else if d.idle p then k (d.clockOut p (List.replicate n 0))
  else d.clockOut p (List.replicate n 0)

/-- Tests 1 and 3 on a command whose framing is right but for LEN's range (R189, log 3). -/
def Device.tested (p : PortId) (c : Cmd) (ps : List Byte) (k : Device → Device) (d : Device) : Device :=
  if 62 < ps.length then d.placeError p c.code .frameError
  else if !c.permitted p then d.placeError p c.code .notPermitted
  else k d

/-- Test 5, and the command after it (R189). -/
def Device.lengthTested (p : PortId) (c : Cmd) (ps : List Byte) (k : Device → Device) (d : Device) : Device :=
  if c.lengthOk ps then k d else d.placeError p c.code .frameError

/-- A command period of a known command: LEN, CMD, `ps` and CHECK (R188, R189). -/
def Device.commandPeriod (p : PortId) (c : Cmd) (ps : List Byte) (k : Device → Device) (d : Device) : Device :=
  d.inIdle p (ps.length + 3) (fun d => d.tested p c ps (fun d => d.lengthTested p c ps k))

/-- A command period of a command that an owning block answers. -/
def Device.commanded (p : PortId) (c : Cmd) (ps : List Byte) (body : Device → Device × Reply) (d : Device) : Device :=
  d.commandPeriod p c ps (Device.carryOut p c body)

/-! ## Parts (R190) -/

/-- What a part of PUT_NOTICE does to an assembly (R190). -/
inductive PartOutcome where
  | frameError
  | gathered (a : Assembly)
  | whole (ps : List Byte)
deriving DecidableEq, Repr

/-- The outcome of a part by its part byte and the assembly held; an index above 3 follows none (R190, log 23). -/
def partOutcome (a : Option Assembly) (part : Nat) (rest : List Byte) : PartOutcome :=
  if part % 8 = 0 then (if 128 ≤ part then .whole rest else .gathered { gathered := rest, last := 0 })
  else
    match a with
    | some x =>
      if part % 8 = x.last + 1 ∧ part % 8 ≤ 3 then
        (if 128 ≤ part then .whole (x.gathered ++ rest)
         else .gathered { gathered := x.gathered ++ rest, last := part % 8 })
      else .frameError
    | none => .frameError

/-- Writes a port's assembly. -/
def Device.setAssembly (p : PortId) (a : Option Assembly) (d : Device) : Device := d.setPort p { d.port p with assembly := a }

/-- A part of PUT_NOTICE that passed tests 1 to 3: gathered, with OK at once, or the whole command with test 5 on what was
gathered, or FRAME_ERROR (R189 test 4, R190, log 23). -/
def Device.takePart (p : PortId) (ps : List Byte) (d : Device) : Device :=
  match ps with
  | [] => (d.setAssembly p none).placeError p Cmd.putNotice.code .frameError
  | part :: rest =>
    match partOutcome (d.port p).assembly part.toNat rest with
    | .frameError => (d.setAssembly p none).placeError p Cmd.putNotice.code .frameError
    | .gathered a => (d.setAssembly p (some a)).place p ((Reply.ok []).response .putNotice)
    | .whole gathered =>
      (d.setAssembly p none).lengthTested p .putNotice gathered (Device.carryOut p .putNotice (runPutNotice gathered))

/-- A command period of PUT_NOTICE (R189, R190). -/
def Device.putNoticePeriod (p : PortId) (ps : List Byte) (d : Device) : Device :=
  d.inIdle p (ps.length + 3) (fun d => d.tested p .putNotice ps (Device.takePart p ps))

/-! ## Read periods (R191) -/

/-- The owning block has finished: the response held is placed (R191). -/
def Device.responsePlaced (p : PortId) (d : Device) : Device :=
  match (d.port p).mode, (d.port p).inHand with
  | .executing, some r => d.place p r
  | _, _ => d

/-- A port after its response, or one segment of it, has been clocked out whole (R191). -/
def Port.readOn (x : Port) (r : Response) : Port :=
  if x.segment + 1 < r.segments then { x with segment := x.segment + 1 }
  else { x with mode := .idle, buffer := none, segment := 0 }

/-- A read period of `n` clocked bytes in RESPONSE_READY (R191). -/
def Device.readResponse (p : PortId) (n : Nat) (r : Response) (d : Device) : Device :=
  if n < (r.frame (d.port p).segment).length then d.clockOut p ((r.frame (d.port p).segment).take n)
  else (d.setPort p ((d.port p).readOn r)).clockOut p (r.frame (d.port p).segment)

/-- A read period of `n` clocked bytes (R188, R191, log 16). -/
def Device.readPeriod (p : PortId) (n : Nat) (d : Device) : Device :=
  if d.phase = .off ∨ n = 0 then d
  else
    match (d.port p).mode, (d.port p).buffer with
    | .starting, _ => d.clockOut p ((shortFrame .busy).take n)
    | .responseReady, some r => d.readResponse p n r
    | _, _ => d.clockOut p ((shortFrame .pending).take n)

/-! ## Notify sets (R198, R199) -/

/-- Clears the sale watch of every running entry (R93). -/
def Device.clearWatches (d : Device) : Device :=
  { d with table := { d.table with entries := d.table.entries.map (fun e => { e with saleWatch := false }) } }

/-- The data of a READ_NOTIFY response (R199). -/
def Device.notifyData (d : Device) (p : PortId) : List Byte :=
  match p with
  | .sale => [(d.port p).notify, (d.port p).mask] ++ be8 d.sale.state.code
  | .board | .office => [(d.port p).notify, (d.port p).mask]

/-- Clears a port's whole notify set; on the Board port CUE_PENDING is set again while cues remain (R199). -/
def Device.clearNotify (p : PortId) (d : Device) : Device :=
  (d.setPort p { d.port p with notify := 0 }).setFlagIf (p == .board && !d.cues.isEmpty) .cuePending

/-- READ_NOTIFY (R199, R93). -/
def runReadNotify (p : PortId) (_ps : List Byte) (d : Device) : Device × Reply :=
  ((d.clearNotify p).when (p == .sale && d.hasFlag .stopStateChanged) Device.clearWatches, .ok (d.notifyData p))

/-- SET_NOTIFY_MASK (R198). -/
def runSetNotifyMask (p : PortId) (ps : List Byte) (d : Device) : Device × Reply :=
  (d.setPort p { d.port p with mask := BitVec.ofNat 8 (byteAt ps 0) &&& PortId.allFlags p }, .ok [(d.port p).mask])

/-! ## TAKE_CUE (R174, log 15) -/

/-- Whether the notice of a NOTICE cue is still stored, its text and its priority; of one that is not, an empty text and priority
0 follow the flag: DESIGN CHOICE (R174, log 15). -/
def Device.cueNoticeData (d : Device) (c : Cue) : List Byte :=
  match c.notice with
  | none => []
  | some k =>
    match d.notices.find? k with
    | some n => beFlag true ++ beText n.text ++ be8 n.priority
    | none => beFlag false ++ beText [] ++ be8 0

/-- A cue record in the order of R170's table, and what a NOTICE cue adds; an absent platform is sent as 0: DESIGN CHOICE
(R174, log 15). -/
def Device.cueData (d : Device) (c : Cue) : List Byte :=
  be8 c.kind.code ++ be16Or0 c.train ++ be8Or0 c.platform ++ be8Or0 c.notice ++ be8 c.priority ++ be24 c.second
    ++ d.cueNoticeData c

/-- TAKE_CUE (R174). -/
def runTakeCue (_ps : List Byte) (d : Device) : Device × Reply :=
  match d.cues with
  | [] => (d.clearFlag .cuePending, .ok (be8 0))
  | c :: cs =>
    (({ d with cues := cs } : Device).when cs.isEmpty (Device.clearFlag .cuePending), .ok (d.cueData c ++ be8 cs.length))

/-! ## SET_HALT (R197) -/

/-- The settings SET_HALT carries (R204). -/
def haltFrom (ps : List Byte) : HaltSettings :=
  let o := 3 + byteAt ps 2
  { ownPoint := u16At ps 0, name := textAt ps 2, fareCode := u16At ps o, dwell := byteAt ps (o + 2), early := u16At ps (o + 3),
    reserve := byteAt ps (o + 5), uploadMark := u16At ps (o + 6), enterUnlisted := byteAt ps (o + 8) == 1 }

/-- The range tests of SET_HALT in the order of its table (R197). -/
def haltChecks (ps : List Byte) : List Bool :=
  let h := haltFrom ps
  [ inRange 1 2047 h.ownPoint
  , textOk 24 h.name
  , decide (h.fareCode ≤ 999)
  , decide (h.dwell ≤ 120)
  , decide (h.early ≤ 600)
  , inRange 8 64 h.reserve
  , inRange 8 448 h.uploadMark
  , isFlagByte (byteAt ps (3 + byteAt ps 2 + 8)) ]

/-- The hand-ons of the settings that changed, in an order the spec leaves open (R197, R75, R134, R146, R162). -/
def Device.haltChanged (old new : HaltSettings) (d : Device) : Device :=
  d.forAll
    [ Device.when (old.dwell != new.dwell || old.early != new.early) (Device.recomputeEvery false)
    , Device.when (old.name != new.name || old.dwell != new.dwell || old.early != new.early) Device.recompose
    , Device.when (old.reserve != new.reserve) Device.evalSales
    , Device.when (decide (new.uploadMark < old.uploadMark)) Device.markJournal ]
    (fun f d => f d)

/-- SET_HALT (R197). The place of the first field out of range takes 1 byte: DESIGN CHOICE (log 15). -/
def runSetHalt (ps : List Byte) (d : Device) : Device × Reply :=
  match firstFailing 1 (haltChecks ps) with
  | some n => (d, .badParam (be8 n))
  | none => (({ d with halt := haltFrom ps } : Device).haltChanged d.halt (haltFrom ps), .ok d.halt.bytes)

end Sys2Proof.Machine
end

