-- ==== Sys2Proof/Machine/Starts.lean ====
section
/-!
DEFINITION. Power, RESET, RESTART and the end of a start (R195, R196): the values each block takes at a warm start (R18, R20,
R50, R53, R98, R113, R136, R150, R151, R156, R167, R168, R170, R187), and the cold start.
-/

namespace Sys2Proof.Machine

/-! ## Power, RESET and RESTART -/

/-- POWER_ON: a start of cause POWER begins when the part has no power (R195, log 25). -/
def Device.powerOn (d : Device) : Device := if d.phase = .off then d.beginStart .power else d

/-- The RESET input is asserted: a start of cause RESET_INPUT begins, or the start under way takes that cause (R195, log 25). -/
def Device.resetInput (d : Device) : Device := if d.phase = .off then d else d.beginStart .resetInput

/-- RESTART: a start of cause RESTART begins, and no response of its own is given (R196). -/
def Device.restart (d : Device) : Device := d.beginStart .restart

/-- POWER_LOSS: the part stops; what a command had in hand and what the ports held is lost (R149, R195). -/
def Device.powerLoss (d : Device) : Device := { d.beginStart .power with phase := .off }

/-! ## A warm start, block by block -/

/-- A bank found LOADING becomes BROKEN (R18, R113). -/
def BankState.afterStart (s : BankState) : BankState := if s = .loading then .broken else s

/-- The clock state after a warm start (R20). -/
def ClockState.afterStart (s : ClockState) : ClockState := if s = .unset then .unset else .free

/-- The Clock after a warm start: the counter runs on (R20). -/
def Clock.warm (c : Clock) : Clock :=
  { c with state := c.state.afterStart, syncAge := 0, candidate := none, dueMinute := 0, dueSweep := 0, dueDay := 0 }

/-- The Line Interface after a warm start: the filters and the default action are kept (R50). -/
def Line.warm (l : Line) : Line :=
  { l with lastHit := none, slot0 := none, slot1 := none, attempt := none, lastEnd := none, failures := 0, state := .up }

/-- The Sale Unit after a warm start, before the sales state is evaluated: the sales-closed flag is kept (R136). -/
def SaleUnit.warm (u : SaleUnit) : SaleUnit := { u with slotA := none, slotB := none, nextQuote := 1, lastSale := none }

/-- The Change-over Unit after a warm start (R187). -/
def Changeover.warm (c : Changeover) : Changeover :=
  { c with unit := if c.armed then .armed else .disarmed, timer := none, lastResult := none }

/-- A screen after a start, before its page is composed: health OK (R151). -/
def Screen.warm (s : Screen) : Screen := { s with health := .ok }

/-- The stored state kept, and the volatile state at its start values; the cue queue, the running table, the finished set
and the buttons are empty (R18, R53, R98, R155, R170). -/
def Device.warmStores (d : Device) : Device :=
  { d with
    phase := .running
    clock := d.clock.warm
    tt := { d.tt with staged := { d.tt.staged with state := d.tt.staged.state.afterStart } }
    line := d.line.warm
    table := { entries := [], full := false }
    sru := { up := .released, down := .released }
    fares := { d.fares with staged := { d.fares.staged with state := d.fares.staged.state.afterStart } }
    sale := d.sale.warm
    board := { d.board with screens := d.board.screens.map Screen.warm, finished := [] }
    cues := []
    co := d.co.warm }

/-- The sales state evaluated, and the notices and system notices judged from the starting views; none raises a cue
(R136, R167, R168, R170). -/
def Device.warmViews (d : Device) : Device :=
  { d with
    sale := { d.sale with state := d.salesStateNow }
    notices := { items := d.notices.items.map (Notice.judged d.moment), sn1 := d.salesStateNow.stops, sn2 := false,
                 sn3 := d.clock.state != .synced } }

/-- The lists rebuilt. -/
def Device.warmLists (d : Device) : Device := d.setLists (groupIds.map d.rebuilt)

/-- Every page composed at once, every page sequence number 1 (R162). -/
def Device.warmPages (d : Device) : Device :=
  { d with board := { d.board with screens := d.board.screens.map (fun s => { s with page := d.composePage s, seq := 1 }) } }

/-- A flag bit, or none. -/
def flagBit (c : Bool) (f : Flag) : BitVec 8 := if c then f.mask else 0

/-- The Office port's flags of a warm start: STAGE_RESULT for a bank found LOADING, JOURNAL_MARK (R18, R146). -/
def Device.officeStartFlags (d : Device) : BitVec 8 :=
  flagBit (d.tt.staged.state == .loading || d.fares.staged.state == .loading) .stageResult
    ||| flagBit (decide (d.halt.uploadMark ≤ d.journal.occupied)) .journalMark

/-- Each port with its start response and its start flags (R195, R136, R162). -/
def Device.warmPorts (c : StartCause) (office : BitVec 8) (d : Device) : Device :=
  { d with
    ports := { sale := .started true c Flag.salesStateChanged.mask d.ports.sale.mask
               board := .started true c Flag.pageChanged.mask d.ports.board.mask
               office := .started true c office d.ports.office.mask } }

/-- The part right after a warm start of the given cause has ended (R195). -/
def Device.warm (c : StartCause) (d : Device) : Device :=
  (d.warmStores.warmViews.warmLists.warmPages).warmPorts c d.officeStartFlags

/-- The end of a start: warm when the backup check word is found valid, and cold when it is not (R195, log 11). -/
def Device.startEnd (valid : Bool) (d : Device) : Device :=
  match d.phase with
  | .starting c => if valid then d.warm c else { Device.cold c with sched := d.sched }
  | .running | .off => d

end Sys2Proof.Machine
end

