-- ==== Sys2Proof/Machine/SaleCommands.lean ====
section
/-!
DEFINITION. The meanings of the Sale port's commands; and how a change of the part becomes the outcome of a command.
-/

namespace Sys2Proof.Machine

/-- The outcome of a command that changes the part by `f`: a next state, the queue left as it is. -/
def State.run (s : State) (f : Device → Device) : Host.Outcome State Fault Refusal := .next { s with dev := f s.dev }

/-- QUOTE (R123). -/
def execQuote (p : PortId) (ps : List Byte) (s : State) : Host.Outcome State Fault Refusal :=
  s.run (Device.commanded p .quote ps (runQuote ps))

/-- ISSUE (R127 to R129). -/
def execIssue (p : PortId) (ps : List Byte) (s : State) : Host.Outcome State Fault Refusal :=
  s.run (Device.commanded p .issue ps (runIssue ps))

/-- VOID (R133). -/
def execVoid (p : PortId) (ps : List Byte) (s : State) : Host.Outcome State Fault Refusal :=
  s.run (Device.commanded p .void ps (runVoid ps))

/-- CANCEL_QUOTE (R126). -/
def execCancelQuote (p : PortId) (ps : List Byte) (s : State) : Host.Outcome State Fault Refusal :=
  s.run (Device.commanded p .cancelQuote ps (runCancelQuote ps))

end Sys2Proof.Machine
end

