-- ==== Sys2Proof/Machine/BoardCommands.lean ====
section
/-!
DEFINITION. The meanings of the Board port's commands and of the three commands that every port may send.
-/

namespace Sys2Proof.Machine

/-- READ_PAGE (R162). -/
def execReadPage (p : PortId) (ps : List Byte) (s : State) : Host.Outcome State Fault Refusal :=
  s.run (Device.commanded p .readPage ps (runReadPage ps))

/-- TAKE_CUE (R174). -/
def execTakeCue (p : PortId) (ps : List Byte) (s : State) : Host.Outcome State Fault Refusal :=
  s.run (Device.commanded p .takeCue ps (runTakeCue ps))

/-- REPORT_SCREEN (R151). -/
def execReportScreen (p : PortId) (ps : List Byte) (s : State) : Host.Outcome State Fault Refusal :=
  s.run (Device.commanded p .reportScreen ps (runReportScreen ps))

/-- READ_DEPARTURES (R200). -/
def execReadDepartures (p : PortId) (ps : List Byte) (s : State) : Host.Outcome State Fault Refusal :=
  s.run (Device.commanded p .readDepartures ps (runReadDepartures ps))

/-- READ_NOTIFY (R199). -/
def execReadNotify (p : PortId) (ps : List Byte) (s : State) : Host.Outcome State Fault Refusal :=
  s.run (Device.commanded p .readNotify ps (runReadNotify p ps))

/-- SET_NOTIFY_MASK (R198). -/
def execSetNotifyMask (p : PortId) (ps : List Byte) (s : State) : Host.Outcome State Fault Refusal :=
  s.run (Device.commanded p .setNotifyMask ps (runSetNotifyMask p ps))

end Sys2Proof.Machine
end

