-- ==== Sys2Proof/Machine/OfficeCommands.lean ====
section
/-!
DEFINITION. The meanings of the Office port's commands.
-/

namespace Sys2Proof.Machine

/-- STAGE_BEGIN with item TIMETABLE; `ps` are the bytes after the item byte (R5). -/
def execStageBeginTimetable (p : PortId) (ps : List Byte) (s : State) : Host.Outcome State Fault Refusal :=
  s.run (Device.commanded p .stageBegin (1 :: ps) (stageBeginTimetable (u16At ps 0)))

/-- STAGE_BEGIN with item FARES; `ps` are the bytes after the item byte (R114). -/
def execStageBeginFares (p : PortId) (ps : List Byte) (s : State) : Host.Outcome State Fault Refusal :=
  s.run (Device.commanded p .stageBegin (2 :: ps) (stageBeginFares (u16At ps 0)))

/-- STAGE_PUT_DEST (R3). -/
def execStagePutDest (p : PortId) (ps : List Byte) (s : State) : Host.Outcome State Fault Refusal :=
  s.run (Device.commanded p .stagePutDest ps (runStagePutDest ps))

/-- STAGE_PUT_CALL (R7). -/
def execStagePutCall (p : PortId) (ps : List Byte) (s : State) : Host.Outcome State Fault Refusal :=
  s.run (Device.commanded p .stagePutCall ps (runStagePutCall ps))

/-- STAGE_PUT_FARE (R115). -/
def execStagePutFare (p : PortId) (ps : List Byte) (s : State) : Host.Outcome State Fault Refusal :=
  s.run (Device.commanded p .stagePutFare ps (runStagePutFare ps))

/-- STAGE_PUT_RULES (R116). -/
def execStagePutRules (p : PortId) (ps : List Byte) (s : State) : Host.Outcome State Fault Refusal :=
  s.run (Device.commanded p .stagePutRules ps (runStagePutRules ps))

/-- STAGE_CLOSE with item TIMETABLE; `ps` are the bytes after the item byte (R11). -/
def execStageCloseTimetable (p : PortId) (ps : List Byte) (s : State) : Host.Outcome State Fault Refusal :=
  s.run (Device.commanded p .stageClose (1 :: ps) (stageCloseTimetable (byteAt ps 0)))

/-- STAGE_CLOSE with item FARES; `ps` are the bytes after the item byte (R117). -/
def execStageCloseFares (p : PortId) (ps : List Byte) (s : State) : Host.Outcome State Fault Refusal :=
  s.run (Device.commanded p .stageClose (2 :: ps) (stageCloseFares (byteAt ps 0)))

/-- CHANGEOVER_SET (R176). -/
def execChangeoverSet (p : PortId) (ps : List Byte) (s : State) : Host.Outcome State Fault Refusal :=
  s.run (Device.commanded p .changeoverSet ps (runChangeoverSet ps))

/-- APPLY_NOW (R182). -/
def execApplyNow (p : PortId) (ps : List Byte) (s : State) : Host.Outcome State Fault Refusal :=
  s.run (Device.commanded p .applyNow ps (runApplyNow ps))

/-- PUT_NOTICE, one part of it (R164, R190). -/
def execPutNotice (p : PortId) (ps : List Byte) (s : State) : Host.Outcome State Fault Refusal :=
  s.run (Device.putNoticePeriod p ps)

/-- REMOVE_NOTICE (R167). -/
def execRemoveNotice (p : PortId) (ps : List Byte) (s : State) : Host.Outcome State Fault Refusal :=
  s.run (Device.commanded p .removeNotice ps (runRemoveNotice ps))

/-- SHOW_NOTICE (R166). -/
def execShowNotice (p : PortId) (ps : List Byte) (s : State) : Host.Outcome State Fault Refusal :=
  s.run (Device.commanded p .showNotice ps (showOrHide true ps))

/-- HIDE_NOTICE (R166). -/
def execHideNotice (p : PortId) (ps : List Byte) (s : State) : Host.Outcome State Fault Refusal :=
  s.run (Device.commanded p .hideNotice ps (showOrHide false ps))

/-- SET_FILTER (R37). -/
def execSetFilter (p : PortId) (ps : List Byte) (s : State) : Host.Outcome State Fault Refusal :=
  s.run (Device.commanded p .setFilter ps (runSetFilter ps))

/-- SET_HALT (R197). -/
def execSetHalt (p : PortId) (ps : List Byte) (s : State) : Host.Outcome State Fault Refusal :=
  s.run (Device.commanded p .setHalt ps (runSetHalt ps))

/-- SET_SCREEN (R151). -/
def execSetScreen (p : PortId) (ps : List Byte) (s : State) : Host.Outcome State Fault Refusal :=
  s.run (Device.commanded p .setScreen ps (runSetScreen ps))

/-- SET_GROUP (R152). -/
def execSetGroup (p : PortId) (ps : List Byte) (s : State) : Host.Outcome State Fault Refusal :=
  s.run (Device.commanded p .setGroup ps (runSetGroup ps))

/-- SET_TIME (R28). -/
def execSetTime (p : PortId) (ps : List Byte) (s : State) : Host.Outcome State Fault Refusal :=
  s.run (Device.commanded p .setTime ps (runSetTime ps))

/-- SET_SERIAL_BASE (R143). -/
def execSetSerialBase (p : PortId) (ps : List Byte) (s : State) : Host.Outcome State Fault Refusal :=
  s.run (Device.commanded p .setSerialBase ps (runSetSerialBase ps))

/-- SET_PARTITION (R138). -/
def execSetPartition (p : PortId) (ps : List Byte) (s : State) : Host.Outcome State Fault Refusal :=
  s.run (Device.commanded p .setPartition ps (runSetPartition ps))

/-- READ_JOURNAL (R147). -/
def execReadJournal (p : PortId) (ps : List Byte) (s : State) : Host.Outcome State Fault Refusal :=
  s.run (Device.commanded p .readJournal ps (runReadJournal ps))

/-- RELEASE (R148). -/
def execRelease (p : PortId) (ps : List Byte) (s : State) : Host.Outcome State Fault Refusal :=
  s.run (Device.commanded p .release ps (runRelease ps))

/-- OPEN_SALES (R135). -/
def execOpenSales (p : PortId) (ps : List Byte) (s : State) : Host.Outcome State Fault Refusal :=
  s.run (Device.commanded p .openSales ps (closeOrOpen false))

/-- CLOSE_SALES (R135). -/
def execCloseSales (p : PortId) (ps : List Byte) (s : State) : Host.Outcome State Fault Refusal :=
  s.run (Device.commanded p .closeSales ps (closeOrOpen true))

/-- RESTART_LINE (R49). -/
def execRestartLine (p : PortId) (ps : List Byte) (s : State) : Host.Outcome State Fault Refusal :=
  s.run (Device.commanded p .restartLine ps (runRestartLine ps))

/-- RESTART: it gives no response of its own (R196). -/
def execRestart (p : PortId) (ps : List Byte) (s : State) : Host.Outcome State Fault Refusal :=
  s.run (Device.commandPeriod p .restart ps Device.restart)

/-- READ_STATUS (R201). -/
def execReadStatus (p : PortId) (ps : List Byte) (s : State) : Host.Outcome State Fault Refusal :=
  s.run (Device.commanded p .readStatus ps (runReadStatus ps))

end Sys2Proof.Machine
end

