-- ==== Sys2Proof/Machine/PortEvents.lean ====
section
/-!
DEFINITION. The meanings of the port events: a command period given by its bytes, read periods, responses placed, starts and power.
-/

namespace Sys2Proof.Machine

/-- A command period of the command that a CMD byte names (R189, R194). -/
def Cmd.period (c : Cmd) (p : PortId) (ps : List Byte) (d : Device) : Device :=
  match c with
  | .quote => d.commanded p .quote ps (runQuote ps)
  | .issue => d.commanded p .issue ps (runIssue ps)
  | .void => d.commanded p .void ps (runVoid ps)
  | .cancelQuote => d.commanded p .cancelQuote ps (runCancelQuote ps)
  | .readPage => d.commanded p .readPage ps (runReadPage ps)
  | .takeCue => d.commanded p .takeCue ps (runTakeCue ps)
  | .reportScreen => d.commanded p .reportScreen ps (runReportScreen ps)
  | .readDepartures => d.commanded p .readDepartures ps (runReadDepartures ps)
  | .readNotify => d.commanded p .readNotify ps (runReadNotify p ps)
  | .setNotifyMask => d.commanded p .setNotifyMask ps (runSetNotifyMask p ps)
  | .stageBegin => d.commanded p .stageBegin ps (runStageBegin ps)
  | .stagePutDest => d.commanded p .stagePutDest ps (runStagePutDest ps)
  | .stagePutCall => d.commanded p .stagePutCall ps (runStagePutCall ps)
  | .stagePutFare => d.commanded p .stagePutFare ps (runStagePutFare ps)
  | .stagePutRules => d.commanded p .stagePutRules ps (runStagePutRules ps)
  | .stageClose => d.commanded p .stageClose ps (runStageClose ps)
  | .changeoverSet => d.commanded p .changeoverSet ps (runChangeoverSet ps)
  | .applyNow => d.commanded p .applyNow ps (runApplyNow ps)
  | .putNotice => d.putNoticePeriod p ps
  | .removeNotice => d.commanded p .removeNotice ps (runRemoveNotice ps)
  | .showNotice => d.commanded p .showNotice ps (showOrHide true ps)
  | .hideNotice => d.commanded p .hideNotice ps (showOrHide false ps)
  | .setFilter => d.commanded p .setFilter ps (runSetFilter ps)
  | .setHalt => d.commanded p .setHalt ps (runSetHalt ps)
  | .setScreen => d.commanded p .setScreen ps (runSetScreen ps)
  | .setGroup => d.commanded p .setGroup ps (runSetGroup ps)
  | .setTime => d.commanded p .setTime ps (runSetTime ps)
  | .setSerialBase => d.commanded p .setSerialBase ps (runSetSerialBase ps)
  | .setPartition => d.commanded p .setPartition ps (runSetPartition ps)
  | .readJournal => d.commanded p .readJournal ps (runReadJournal ps)
  | .release => d.commanded p .release ps (runRelease ps)
  | .openSales => d.commanded p .openSales ps (closeOrOpen false)
  | .closeSales => d.commanded p .closeSales ps (closeOrOpen true)
  | .restartLine => d.commanded p .restartLine ps (runRestartLine ps)
  | .restart => d.commandPeriod p .restart ps Device.restart
  | .readStatus => d.commanded p .readStatus ps (runReadStatus ps)

/-- Test 1: the bytes clocked in number LEN + 1, LEN lies in 2 to 64, and CHECK is the CRC-8 of the rest (R189, R193). -/
def framed (bytes : List Byte) : Bool :=
  decide (bytes.length = byteAt bytes 0 + 1) && inRange 2 64 (byteAt bytes 0)
    && bytes.getLast? == some (crc8 bytes.dropLast)

/-- The parameters between CMD and CHECK. -/
def frameParams (bytes : List Byte) : List Byte := (bytes.drop 2).dropLast

/-- A command period given by its bytes: tests 1 and 2, and then the command that CMD names (R189, log 4). -/
def Device.rawCommand (p : PortId) (bytes : List Byte) (d : Device) : Device :=
  if !framed bytes then d.inIdle p bytes.length (Device.placeError p (bytes.getD 1 0) .frameError)
  else
    match Cmd.ofCode (byteAt bytes 1) with
    | none => d.inIdle p bytes.length (Device.placeError p (bytes.getD 1 0) .unknownCommand)
    | some c => c.period p (frameParams bytes) d

/-- A period given by its bytes: none clocked has no effect, and a first byte of 0 makes it a read period (R188). -/
def Device.rawPeriod (p : PortId) (bytes : List Byte) (d : Device) : Device :=
  if bytes.length = 0 then d
  else if byteAt bytes 0 = 0 then d.readPeriod p bytes.length
  else d.rawCommand p bytes

/-- UNKNOWN_COMMAND (R189). -/
def execUnknownCommand (p : PortId) (bytes : List Byte) (s : State) : Host.Outcome State Fault Refusal :=
  s.run (Device.rawPeriod p bytes)

/-- READ_PERIOD (R191). -/
def execReadPeriod (p : PortId) (n : Nat) (s : State) : Host.Outcome State Fault Refusal := s.run (Device.readPeriod p n)

/-- RESPONSE_PLACED (R191). -/
def execResponsePlaced (p : PortId) (s : State) : Host.Outcome State Fault Refusal := s.run (Device.responsePlaced p)

/-- POWER_ON (R195). -/
def execPowerOn (s : State) : Host.Outcome State Fault Refusal := s.run Device.powerOn

/-- RESET_INPUT (R195). -/
def execResetInput (s : State) : Host.Outcome State Fault Refusal := s.run Device.resetInput

/-- START_END (R195). -/
def execStartEnd (valid : Bool) (s : State) : Host.Outcome State Fault Refusal := s.run (Device.startEnd valid)

/-- POWER_LOSS (R149). -/
def execPowerLoss (s : State) : Host.Outcome State Fault Refusal := s.run Device.powerLoss

end Sys2Proof.Machine
end

