-- ==== Sys2Proof/Machine/LineEvents.lean ====
section
/-!
DEFINITION. The meanings of the line events: arrivals of each kind of frame (R32 to R40) and the transmitter's attempts (R43 to R46).
-/

namespace Sys2Proof.Machine

/-- An event that the part takes only while it runs; during a start it takes none of its inputs (R195). -/
def Device.whenRunning (f : Device → Device) (d : Device) : Device := d.when d.running f

/-- RUN_FRAME: an arriving frame of kind RUN (R59). -/
def execRunFrame (train : BitVec 14) (point : BitVec 11) (data : List Byte) (s : State) : Host.Outcome State Fault Refusal :=
  s.run (Device.lineEvent { kind := 1, train := train, point := point, data := data })

/-- CANCEL: an arriving SERVICE frame of action CANCEL (R66). -/
def execCancel (train : BitVec 14) (point : BitVec 11) (rest : List Byte) (s : State) : Host.Outcome State Fault Refusal :=
  s.run (Device.lineEvent { kind := 2, train := train, point := point, data := 1 :: rest })

/-- REINSTATE: an arriving SERVICE frame of action REINSTATE (R67). -/
def execReinstate (train : BitVec 14) (point : BitVec 11) (rest : List Byte) (s : State) : Host.Outcome State Fault Refusal :=
  s.run (Device.lineEvent { kind := 2, train := train, point := point, data := 2 :: rest })

/-- PLATFORM: an arriving SERVICE frame of action PLATFORM (R68). -/
def execPlatform (train : BitVec 14) (point : BitVec 11) (rest : List Byte) (s : State) : Host.Outcome State Fault Refusal :=
  s.run (Device.lineEvent { kind := 2, train := train, point := point, data := 3 :: rest })

/-- SERVICE_FRAME_TOUCH_ONLY: an arriving SERVICE frame with an unknown action code, or too short (R65). -/
def execServiceFrameTouchOnly (train : BitVec 14) (point : BitVec 11) (data : List Byte) (s : State) : Host.Outcome State Fault Refusal :=
  s.run (Device.lineEvent { kind := 2, train := train, point := point, data := data })

/-- TIMEMARK: an arriving frame of kind TIMEMARK (R24). -/
def execTimemark (train : BitVec 14) (point : BitVec 11) (data : List Byte) (s : State) : Host.Outcome State Fault Refusal :=
  s.run (Device.lineEvent { kind := 3, train := train, point := point, data := data })

/-- STOPACK: an arriving frame of kind STOPACK (R104). -/
def execStopack (train : BitVec 14) (point : BitVec 11) (data : List Byte) (s : State) : Host.Outcome State Fault Refusal :=
  s.run (Device.lineEvent { kind := 5, train := train, point := point, data := data })

/-- LINENOTICE: an arriving frame of kind LINENOTICE (R166). -/
def execLinenotice (train : BitVec 14) (point : BitVec 11) (data : List Byte) (s : State) : Host.Outcome State Fault Refusal :=
  s.run (Device.lineEvent { kind := 6, train := train, point := point, data := data })

/-- LINE_FRAME_DISCARDED: an arriving frame of any kind (R36, R40, log 4). -/
def execLineFrameDiscarded (kind : BitVec 4) (train : BitVec 14) (point : BitVec 11) (data : List Byte) (s : State) :
    Host.Outcome State Fault Refusal :=
  s.run (Device.lineEvent { kind := kind, train := train, point := point, data := data })

/-- ATTEMPT_START (R43). -/
def execAttemptStart (s : State) : Host.Outcome State Fault Refusal := s.run (Device.whenRunning Device.attemptStart)

/-- ATTEMPT_ACKNOWLEDGED (R44). -/
def execAttemptAcknowledged (s : State) : Host.Outcome State Fault Refusal := s.run (Device.whenRunning Device.attemptAcknowledged)

/-- ATTEMPT_NOT_ACKNOWLEDGED (R45). -/
def execAttemptNotAcknowledged (s : State) : Host.Outcome State Fault Refusal := s.run (Device.whenRunning Device.attemptNotAcknowledged)

end Sys2Proof.Machine
end

