-- ==== Sys2Proof/Machine/ClockEvents.lean ====
section
/-!
DEFINITION. The meanings of the clock events (R21 to R27, R71, R125, R167, R181) and of the button and lamp events (R95 to R98).
-/

namespace Sys2Proof.Machine

/-- SECOND_ADVANCE (R21). -/
def execSecondAdvance (s : State) : Host.Outcome State Fault Refusal := s.run (Device.second)

/-- MINUTE_TICK (R22). -/
def execMinuteTick (s : State) : Host.Outcome State Fault Refusal := s.run (Device.whenRunning Device.minuteTick)

/-- SWEEP_TICK (R71). -/
def execSweepTick (s : State) : Host.Outcome State Fault Refusal := s.run (Device.whenRunning Device.sweepTick)

/-- DAY_BOUNDARY (R22). -/
def execDayBoundary (s : State) : Host.Outcome State Fault Refusal := s.run (Device.whenRunning Device.dayTick)

/-- SYNC_AGE_EXPIRY (R23). -/
def execSyncAgeExpiry (s : State) : Host.Outcome State Fault Refusal := s.run (Device.whenRunning Device.syncExpiry)

/-- CANDIDATE_WINDOW_CLOSE (R27). -/
def execCandidateWindowClose (s : State) : Host.Outcome State Fault Refusal := s.run (Device.whenRunning Device.candidateClose)

/-- DELAY_EXPIRY (R181). -/
def execDelayExpiry (s : State) : Host.Outcome State Fault Refusal := s.run (Device.whenRunning Device.delayExpiry)

/-- QUOTE_EXPIRY (R125). -/
def execQuoteExpiry (s : State) : Host.Outcome State Fault Refusal := s.run (Device.whenRunning Device.quoteTick)

/-- NOTICE_EXPIRY (R167). -/
def execNoticeExpiry (s : State) : Host.Outcome State Fault Refusal := s.run (Device.whenRunning Device.noticeTick)

/-- BUTTON_PRESS (R96). -/
def execButtonPress (dir : Direction) (s : State) : Host.Outcome State Fault Refusal :=
  s.run (Device.whenRunning (Device.press dir))

/-- BUTTON_RELEASE (R95). -/
def execButtonRelease (dir : Direction) (s : State) : Host.Outcome State Fault Refusal :=
  s.run (Device.whenRunning (Device.release dir))

/-- LAMP_FLASH (R98). -/
def execLampFlash (dir : Direction) (s : State) : Host.Outcome State Fault Refusal :=
  s.run (Device.whenRunning (Device.lampFlash dir))

end Sys2Proof.Machine
end

