-- ==== Sys2Proof/Machine/Dispatch.lean ====
section
/-! DEFINITION. The dispatch of a command to its meaning, one arm for each row of spec/opcode_table.json. -/

namespace Sys2Proof.Machine

def exec (i : Instr) (s : State) : Host.Outcome State Fault Refusal :=
  match i with
  | .quote p ps => Sys2Proof.Machine.execQuote p ps s
  | .issue p ps => Sys2Proof.Machine.execIssue p ps s
  | .void p ps => Sys2Proof.Machine.execVoid p ps s
  | .cancelQuote p ps => Sys2Proof.Machine.execCancelQuote p ps s
  | .readPage p ps => Sys2Proof.Machine.execReadPage p ps s
  | .takeCue p ps => Sys2Proof.Machine.execTakeCue p ps s
  | .reportScreen p ps => Sys2Proof.Machine.execReportScreen p ps s
  | .readDepartures p ps => Sys2Proof.Machine.execReadDepartures p ps s
  | .readNotify p ps => Sys2Proof.Machine.execReadNotify p ps s
  | .setNotifyMask p ps => Sys2Proof.Machine.execSetNotifyMask p ps s
  | .stageBeginTimetable p ps => Sys2Proof.Machine.execStageBeginTimetable p ps s
  | .stageBeginFares p ps => Sys2Proof.Machine.execStageBeginFares p ps s
  | .stagePutDest p ps => Sys2Proof.Machine.execStagePutDest p ps s
  | .stagePutCall p ps => Sys2Proof.Machine.execStagePutCall p ps s
  | .stagePutFare p ps => Sys2Proof.Machine.execStagePutFare p ps s
  | .stagePutRules p ps => Sys2Proof.Machine.execStagePutRules p ps s
  | .stageCloseTimetable p ps => Sys2Proof.Machine.execStageCloseTimetable p ps s
  | .stageCloseFares p ps => Sys2Proof.Machine.execStageCloseFares p ps s
  | .changeoverSet p ps => Sys2Proof.Machine.execChangeoverSet p ps s
  | .applyNow p ps => Sys2Proof.Machine.execApplyNow p ps s
  | .putNotice p ps => Sys2Proof.Machine.execPutNotice p ps s
  | .removeNotice p ps => Sys2Proof.Machine.execRemoveNotice p ps s
  | .showNotice p ps => Sys2Proof.Machine.execShowNotice p ps s
  | .hideNotice p ps => Sys2Proof.Machine.execHideNotice p ps s
  | .setFilter p ps => Sys2Proof.Machine.execSetFilter p ps s
  | .setHalt p ps => Sys2Proof.Machine.execSetHalt p ps s
  | .setScreen p ps => Sys2Proof.Machine.execSetScreen p ps s
  | .setGroup p ps => Sys2Proof.Machine.execSetGroup p ps s
  | .setTime p ps => Sys2Proof.Machine.execSetTime p ps s
  | .setSerialBase p ps => Sys2Proof.Machine.execSetSerialBase p ps s
  | .setPartition p ps => Sys2Proof.Machine.execSetPartition p ps s
  | .readJournal p ps => Sys2Proof.Machine.execReadJournal p ps s
  | .release p ps => Sys2Proof.Machine.execRelease p ps s
  | .openSales p ps => Sys2Proof.Machine.execOpenSales p ps s
  | .closeSales p ps => Sys2Proof.Machine.execCloseSales p ps s
  | .restartLine p ps => Sys2Proof.Machine.execRestartLine p ps s
  | .restart p ps => Sys2Proof.Machine.execRestart p ps s
  | .readStatus p ps => Sys2Proof.Machine.execReadStatus p ps s
  | .unknownCommand p bytes => Sys2Proof.Machine.execUnknownCommand p bytes s
  | .readPeriod p n => Sys2Proof.Machine.execReadPeriod p n s
  | .responsePlaced p => Sys2Proof.Machine.execResponsePlaced p s
  | .powerOn => Sys2Proof.Machine.execPowerOn s
  | .resetInput => Sys2Proof.Machine.execResetInput s
  | .startEnd valid => Sys2Proof.Machine.execStartEnd valid s
  | .runFrame train point data => Sys2Proof.Machine.execRunFrame train point data s
  | .cancel train point rest => Sys2Proof.Machine.execCancel train point rest s
  | .reinstate train point rest => Sys2Proof.Machine.execReinstate train point rest s
  | .platform train point rest => Sys2Proof.Machine.execPlatform train point rest s
  | .serviceFrameTouchOnly train point data => Sys2Proof.Machine.execServiceFrameTouchOnly train point data s
  | .timemark train point data => Sys2Proof.Machine.execTimemark train point data s
  | .stopack train point data => Sys2Proof.Machine.execStopack train point data s
  | .linenotice train point data => Sys2Proof.Machine.execLinenotice train point data s
  | .lineFrameDiscarded kind train point data => Sys2Proof.Machine.execLineFrameDiscarded kind train point data s
  | .attemptStart => Sys2Proof.Machine.execAttemptStart s
  | .attemptAcknowledged => Sys2Proof.Machine.execAttemptAcknowledged s
  | .attemptNotAcknowledged => Sys2Proof.Machine.execAttemptNotAcknowledged s
  | .secondAdvance => Sys2Proof.Machine.execSecondAdvance s
  | .minuteTick => Sys2Proof.Machine.execMinuteTick s
  | .sweepTick => Sys2Proof.Machine.execSweepTick s
  | .dayBoundary => Sys2Proof.Machine.execDayBoundary s
  | .syncAgeExpiry => Sys2Proof.Machine.execSyncAgeExpiry s
  | .candidateWindowClose => Sys2Proof.Machine.execCandidateWindowClose s
  | .delayExpiry => Sys2Proof.Machine.execDelayExpiry s
  | .quoteExpiry => Sys2Proof.Machine.execQuoteExpiry s
  | .noticeExpiry => Sys2Proof.Machine.execNoticeExpiry s
  | .buttonPress dir => Sys2Proof.Machine.execButtonPress dir s
  | .buttonRelease dir => Sys2Proof.Machine.execButtonRelease dir s
  | .powerLoss => Sys2Proof.Machine.execPowerLoss s
  | .lampFlash dir => Sys2Proof.Machine.execLampFlash dir s

end Sys2Proof.Machine
end

