-- ==== Sys2Proof/Safety.lean ====
section
/-!
DEFINITION. The laws of the device as properties of its state (R21, R41, R51, R105, R134, R137, R139, R142, R153, R163, R173,
R175, R188), the terms that claims about steps use, and what a command's answer is.
-/

namespace Sys2Proof.Machine

/-! ## Laws -/

/-- Each record is chained to the one before it, the first to `link` (R141). -/
def chainedFrom (link : BitVec 16) : List JournalRec → Prop
  | [] => True
  | r :: rs => r.chain = crc16 link (recordBytes r.serial r.date r.second r.body) ∧ chainedFrom r.chain rs

/-- The law of the journal: the partition in its range, at most 8J records, serials strictly increasing from head to tail,
every record's serial at most the highest issued, that below the next serial, and an unbroken chain from the anchor
(R137, R139, R141, R142). -/
structure Journal.Lawful (j : Journal) : Prop where
  partition : 16 ≤ j.partition ∧ j.partition ≤ 56
  fits : j.records.length ≤ 8 * j.partition
  ascending : (j.records.map JournalRec.serial).Pairwise (· < ·)
  issued : ∀ r ∈ j.records, ∃ h, j.highest = some h ∧ r.serial ≤ h
  next : ∀ h, j.highest = some h → ∃ n, j.nextSerial = some n ∧ h < n
  bound : ∀ n, j.nextSerial = some n → 1 ≤ n ∧ n ≤ 16777216
  chained : chainedFrom j.anchor j.records

/-! ### The staged and active banks -/

/-- The field checks that every stored call has passed, check 12 apart, which reads a setting that may change (R8, R9). -/
structure CallRec.Valid (c : CallRec) : Prop where
  train : 1 ≤ c.train ∧ c.train ≤ 9999
  platform : 1 ≤ c.platform ∧ c.platform ≤ 4
  days : c.days ≠ 0
  times : c.schedArr ≤ c.schedDep ∧ c.schedDep ≤ c.schedArr + 1800 ∧ c.schedDep ≤ 86399
  passing : c.kind = .pass → c.schedDep = c.schedArr
  dest : c.dest ≤ 31
  length : 1 ≤ c.route.length ∧ c.route.length ≤ 6
  points : (∀ r ∈ c.route, 1 ≤ r.point ∧ r.point ≤ 2047) ∧ (c.route.map RoutePoint.point).Nodup
  rising : c.route.Pairwise (fun a b => a.passing < b.passing) ∧ ∀ r ∈ c.route, r.passing ≤ c.schedArr
  margins : c.route.Pairwise (fun a b => b.margin ≤ a.margin) ∧ ∀ r ∈ c.route, r.margin ≤ 900
  cutoff : (c.cutoff.isSome ↔ c.kind = .request) ∧ ∀ k, c.cutoff = some k → 1 ≤ k ∧ k ≤ c.route.length
  approach : ∀ k, c.approach = some k → 1 ≤ k ∧ k ≤ c.route.length

/-- The law of a timetable bank: its bounds, bank order, no two calls of one train on one weekday, names of 1 to 24
characters, a name for every call of a READY bank, and nothing in an EMPTY one (R1, R2, R8, R10, R11). -/
structure TimetableBank.Lawful (b : TimetableBank) : Prop where
  calls : b.calls.length ≤ 96
  names : b.names.length ≤ 32
  texts : ∀ t ∈ b.names, textOk 24 t = true
  valid : ∀ c ∈ b.calls, c.Valid
  ordered : b.calls.Pairwise (fun a c => c.before a = false)
  single : b.calls.Pairwise (fun a c => a.train = c.train → a.days &&& c.days = 0)
  named : b.state = .ready → ∀ c ∈ b.calls, c.dest < b.names.length
  empty : b.state = .empty → b = .cleared
  id : b.state ≠ .empty → ∃ n, b.id = some n ∧ 1 ≤ n ∧ n ≤ 65535

/-- The law of the Timetable Store: both banks lawful, and the ACTIVE bank READY or EMPTY (R4). -/
structure TimetableStore.Lawful (tt : TimetableStore) : Prop where
  active : tt.active.Lawful
  staged : tt.staged.Lawful
  inUse : tt.active.state = .ready ∨ tt.active.state = .empty

/-- The checks that every stored fare destination has passed (R111, R115). -/
structure FareDest.Valid (x : FareDest) : Prop where
  code : 1 ≤ x.code ∧ x.code ≤ 999
  name : textOk 24 x.name = true
  base : x.base ≤ 50000
  validity : x.validity ≤ 30

/-- A cap as R112 bounds it. -/
def CapValid (n : Nat) : Prop := n ≤ 300000 ∧ 10 ∣ n

/-- The checks that every stored set of fare rules has passed (R112, R116). -/
structure FareRules.Valid (r : FareRules) : Prop where
  types : 500 ≤ r.returnFactor ∧ r.returnFactor ≤ 3000 ∧ 500 ≤ r.dayFactor ∧ r.dayFactor ≤ 3000
  classes : r.childFactor ≤ 1000 ∧ r.concessionFactor ≤ 1000
  windows : r.windows.length ≤ 4 ∧
    ∀ w ∈ r.windows, w.days ≠ 0 ∧ w.start ≤ 86399 ∧ 1 ≤ w.stop ∧ w.stop ≤ 86400 ∧ w.start < w.stop
  peak : 1000 ≤ r.peakFactor ∧ r.peakFactor ≤ 2000
  group : (r.groupThreshold = 0 ∨ (2 ≤ r.groupThreshold ∧ r.groupThreshold ≤ 9)) ∧ r.groupDiscount ≤ 500
  caps : CapValid r.capSingle ∧ CapValid r.capReturn ∧ CapValid r.capDay

/-- The law of a fare bank: at most 40 records in ascending order of code, no code twice, rules in a READY bank, and nothing
in an EMPTY one (R111, R112, R113, R117). -/
structure FareBank.Lawful (b : FareBank) : Prop where
  dests : b.dests.length ≤ 40
  valid : ∀ x ∈ b.dests, x.Valid
  ascending : (b.dests.map FareDest.code).Pairwise (· < ·)
  rules : ∀ r, b.rules = some r → r.Valid
  ready : b.state = .ready → b.rules.isSome
  empty : b.state = .empty → b = .cleared
  id : b.state ≠ .empty → ∃ n, b.id = some n ∧ 1 ≤ n ∧ n ≤ 65535

/-- The law of the Fare Unit: both banks lawful, and the ACTIVE bank READY or EMPTY (R113). -/
structure FareStore.Lawful (f : FareStore) : Prop where
  active : f.active.Lawful
  staged : f.staged.Lawful
  inUse : f.active.state = .ready ∨ f.active.state = .empty

/-! ### The other blocks -/

/-- The law of the notice store: at most 64 - J notices, of numbers 1 to 255, held in ascending order: DESIGN CHOICE
(R163, log 30). -/
structure Device.NoticesLawful (d : Device) : Prop where
  fits : d.notices.items.length ≤ d.journal.noticeBlocks
  ascending : (d.notices.items.map Notice.number).Pairwise (· < ·)
  range : ∀ n ∈ d.notices.items, 1 ≤ n.number ∧ n.number ≤ 255
  priority : ∀ n ∈ d.notices.items, n.priority ≤ 3

/-- The law of the running table: at most 24 entries, never two of one train, held in ascending order of train number:
DESIGN CHOICE (R51, log 30). -/
structure RunningTable.Lawful (tb : RunningTable) : Prop where
  fits : tb.entries.length ≤ 24
  ascending : (tb.entries.map Entry.train).Pairwise (· < ·)

/-- The sales state is the one its inputs give (R134). -/
def Device.SalesLawful (d : Device) : Prop := d.sale.state = d.salesStateNow

/-- The law of a QUEUED slot: at most 15 failed attempts (R41). -/
def slotLawful (s : Option TxFrame) : Prop := ∀ f, s = some f → f.failed ≤ 15

/-- The law of the Line Interface: failed attempts and the failure count in range, the two slots never hold one train, one
of two QUEUED slots was queued first, and an attempt under way is of a slot whose frame has begun (R41, R42, R43, R46). -/
structure Line.Lawful (l : Line) : Prop where
  slot0 : slotLawful l.slot0
  slot1 : slotLawful l.slot1
  differ : ∀ a b, l.slot0 = some a → l.slot1 = some b → a.train ≠ b.train ∧ a.later ≠ b.later
  attempt : ∀ k, l.attempt = some k → ∃ f, l.slot k = some f ∧ f.begun = true
  failures : l.failures ≤ 3

/-- What a port state says of the response buffer and of the command in hand (R188, R195). -/
def Port.Lawful (x : Port) : Prop :=
  match x.mode with
  | .starting => x.buffer = none ∧ x.inHand = none ∧ x.assembly = none ∧ x.notify = 0
  | .idle => x.buffer = none ∧ x.inHand = none
  | .executing => x.buffer = none ∧ x.inHand.isSome
  | .responseReady => x.buffer.isSome ∧ x.inHand = none

/-- Every port is in order, and is STARTING exactly when the part does not run (R188, R195). -/
def Device.PortsLawful (d : Device) : Prop :=
  ∀ p, (d.port p).Lawful ∧ ((d.port p).mode = .starting ↔ d.phase ≠ .running)

/-- The law of the stop request: never PENDING or SENT in an entry whose last point index has reached its call's cutoff index
(R105). -/
def Entry.StopLawful (e : Entry) : Prop :=
  ∀ h, e.held = some h → belowCutoff e.lastIndex h.call = false → e.stop ≠ .pending ∧ e.stop ≠ .sent

/-- The law of the stop request in every entry of the table (R105). -/
def Device.StopsLawful (d : Device) : Prop := ∀ e ∈ d.table.entries, e.StopLawful

/-- The law of an entry's forecast: in the four states of R76 the delay lies in -E to 21600 and a stopping train's departure is
not before its scheduled one; no forecast while the clock is UNSET; and what a recompute reads of the entry is there: a report at
a route point in RUNNING and APPROACHING, a halt arrival time in AT_HALT, of a CANCELLED entry by its state before cancel
(R61, R62, R63, R76, R78, R81). -/
structure Entry.ForecastLawful (clock : ClockState) (early : Nat) (e : Entry) : Prop where
  unset : clock = .unset → e.forecast = none
  scheduled : ∀ h, e.held = some h → h.call.schedDep ≤ 86399
  reported : ∀ h, e.held = some h → e.effectiveState = .running ∨ e.effectiveState = .approaching →
    ∃ k r d, e.lastIndex = some (k + 1) ∧ h.call.route[k]? = some r ∧ e.delay = some d ∧ d ≤ 21600
  arrived : ∀ h, e.held = some h → e.effectiveState = .atHalt → e.haltArrival ≠ none
  bounds : ∀ h f, e.held = some h → e.forecast = some f →
    e.state = .expected ∨ e.state = .running ∨ e.state = .approaching ∨ e.state = .atHalt →
    -(early : Int) ≤ f.delay ∧ f.delay ≤ 21600 ∧ (h.call.kind ≠ .pass → h.call.schedDep ≤ f.departure)

/-- The law of the forecasts in every entry of the table (R81). -/
def Device.ForecastsLawful (d : Device) : Prop := ∀ e ∈ d.table.entries, e.ForecastLawful d.clock.state d.halt.early

/-- The places of the departure lists: four groups and four lists, no list above its share (R153). -/
structure Board.Lawful (b : Board) : Prop where
  groups : b.groups.length = 4
  lists : b.lists.length = 4
  shares : ∀ g, (b.list g).length ≤ b.share g

/-- No departure list holds the same train twice (R153). -/
def Board.NoTrainTwice (b : Board) : Prop := ∀ l ∈ b.lists, (l.map Member.train).Nodup

/-- The armed flag is set exactly while the unit is ARMED or TIMING, and the delay timer is present exactly in TIMING (R175). -/
structure Changeover.Lawful (c : Changeover) : Prop where
  armed : c.armed = true ↔ c.unit ≠ .disarmed
  timer : c.timer.isSome ↔ c.unit = .timing

/-- The service second lies in 0 to 86399, the Cue Queue holds at most 16 cues of priority 0 to 3 and the finished set at most
96 numbers (R21, R155, R170, R173). -/
structure Device.BoundsLawful (d : Device) : Prop where
  second : d.clock.second ≤ 86399
  cues : d.cues.length ≤ 16
  priorities : ∀ c ∈ d.cues, c.priority ≤ 3
  finished : d.board.finished.length ≤ 96

/-! ## What claims say of a command -/

/-- The ports but for their notify sets: what the blocks leave alone while they work. -/
def Ports.quiet (ps : Ports) : Ports :=
  { sale := { ps.sale with notify := 0 }, board := { ps.board with notify := 0 }, office := { ps.office with notify := 0 } }

/-- A port that takes a command: the part runs and the port is IDLE (R188). -/
def Device.takes (d : Device) (p : PortId) : Prop := d.phase = .running ∧ (d.port p).mode = .idle

/-- The ports after a command period of `n` clocked bytes that an owning block has answered: the port is EXECUTING with the
response in hand, and has clocked out zeros (R188, R191). -/
def Device.answeredPorts (d : Device) (p : PortId) (n : Nat) (r : Response) : Ports :=
  d.ports.set p { d.port p with mode := .executing, inHand := some r, lastOut := List.replicate n 0 }

/-- The ports after a command period of `n` clocked bytes answered at once: the port is RESPONSE_READY (R189). -/
def Device.readyPorts (d : Device) (p : PortId) (n : Nat) (r : Response) : Ports :=
  d.ports.set p { d.port p with mode := .responseReady, inHand := none, buffer := some r, segment := 0,
                                lastOut := List.replicate n 0 }

/-- The response of a command with a status and data (R192). -/
def Cmd.response (c : Cmd) (st : Status) (data : List Byte) : Response :=
  { cmd := c.code, status := st, data := data, segmented := c.segmented }

/-- The part as the owning block finds it at a command: on the Sale port after the expiry test of the quote slots
(R125, R189). -/
def Device.atCommand (d : Device) (p : PortId) : Device := d.when (p == .sale) Device.closeExpired

/-- The state in which the part has become `d` and the port `p` holds the response `r` in hand, after a command period of
`n` clocked bytes (R188, R191). -/
def State.answered (s : State) (p : PortId) (n : Nat) (r : Response) (d : Device) : State :=
  { s with dev := { d with ports := d.answeredPorts p n r } }

/-- The state in which the port `p` is ready with a response given at once, after a command period of `n` clocked bytes
(R189). -/
def State.ready (s : State) (p : PortId) (n : Nat) (r : Response) : State :=
  { s with dev := { s.dev with ports := s.dev.readyPorts p n r } }

/-- The state with one port changed. -/
def State.withPort (s : State) (p : PortId) (x : Port) : State := { s with dev := s.dev.setPort p x }

/-- `t` is a state in which the port `p` holds the response `r` in hand, and in which the ports, their notify sets aside, and
the queue are otherwise as in `s`. -/
def State.Answered (s : State) (p : PortId) (n : Nat) (r : Response) (t : State) : Prop :=
  t.pending = s.pending ∧ t.dev.ports.quiet = (s.dev.answeredPorts p n r).quiet

/-- `t` is a state whose queue and ports, their notify sets aside, are as in `s`: what an event of a block leaves alone. -/
def State.Quiet (s t : State) : Prop := t.pending = s.pending ∧ t.dev.ports.quiet = s.dev.ports.quiet

/-- The ports that R194's table lets send a command code. -/
def mayBeSent (code : Nat) (p : PortId) : Prop :=
  (1 ≤ code ∧ code ≤ 4 ∧ p = .sale) ∨ (8 ≤ code ∧ code ≤ 10 ∧ p = .board) ∨ (12 ≤ code ∧ code ≤ 14) ∨
    (16 ≤ code ∧ code ≤ 41 ∧ p = .office)

/-! ### Parameters as a master writes them (R202, R203) -/

def directionCode : Direction → Nat
  | .up => 1
  | .down => 2

def CallKind.code : CallKind → Nat
  | .stop => 1
  | .request => 2
  | .pass => 3

/-- A route point as STAGE_PUT_CALL carries it. -/
def RoutePoint.params (r : RoutePoint) : List Byte := be16 r.point ++ be24 r.passing ++ be16 r.margin

/-- The parameters of STAGE_PUT_CALL for a call. -/
def CallRec.params (c : CallRec) : List Byte :=
  be16 c.train ++ be8 (directionCode c.direction) ++ be8 c.kind.code ++ be8 c.platform ++ be8 c.days.toNat ++ be24 c.schedArr
    ++ be24 c.schedDep ++ be8 c.dest ++ be8 c.route.length ++ be8 (c.cutoff.getD 0) ++ be8 (c.approach.getD 0)
    ++ c.route.flatMap RoutePoint.params

/-- The parameters of STAGE_PUT_FARE for a fare destination. -/
def FareDest.params (x : FareDest) : List Byte := be16 x.code ++ be16 x.base ++ be8 x.validity ++ beText x.name

/-- A peak window as STAGE_PUT_RULES carries it. -/
def PeakWindow.params (w : PeakWindow) : List Byte := be8 w.days.toNat ++ be24 w.start ++ be24 w.stop

/-- The parameters of STAGE_PUT_RULES for a set of fare rules. -/
def FareRules.params (r : FareRules) : List Byte :=
  be16 r.returnFactor ++ be16 r.dayFactor ++ be16 r.childFactor ++ be16 r.concessionFactor ++ be16 r.peakFactor
    ++ be8 r.groupThreshold ++ be16 r.groupDiscount ++ be24 r.capSingle ++ be24 r.capReturn ++ be24 r.capDay
    ++ be8 r.windows.length ++ r.windows.flatMap PeakWindow.params

/-! ### The numbered checks, on the bytes as sent (R8, R115, R116, R197, R203, R204) -/

/-- Number `k` is that of the first of `last` checks, numbered from 1, that fails. -/
def FirstToFail (check : Nat → Prop) (last k : Nat) : Prop :=
  1 ≤ k ∧ k ≤ last ∧ ¬ check k ∧ ∀ j, 1 ≤ j → j < k → check j

/-- All of `last` checks, numbered from 1, pass. -/
def AllPass (check : Nat → Prop) (last : Nat) : Prop := ∀ j, 1 ≤ j → j ≤ last → check j

/-- Route point `j`, from 0, of the parameters of STAGE_PUT_CALL (R203). -/
def sentPoint (ps : List Byte) (j : Nat) : RoutePoint :=
  { point := u16At ps (16 + 7 * j), passing := u24At ps (18 + 7 * j), margin := u16At ps (21 + 7 * j) }

/-- Check `k` of STAGE_PUT_CALL passes at a halt of the own point given (R8). -/
def CallCheck (own : Nat) (ps : List Byte) (k : Nat) : Prop :=
  match k with
  | 1 => 1 ≤ u16At ps 0 ∧ u16At ps 0 ≤ 9999
  | 2 => byteAt ps 2 = 1 ∨ byteAt ps 2 = 2
  | 3 => 1 ≤ byteAt ps 3 ∧ byteAt ps 3 ≤ 3
  | 4 => 1 ≤ byteAt ps 4 ∧ byteAt ps 4 ≤ 4
  | 5 => 1 ≤ byteAt ps 5 ∧ byteAt ps 5 ≤ 127
  | 6 => u24At ps 6 ≤ 86399 ∧ u24At ps 9 ≤ 86399
  | 7 => u24At ps 6 ≤ u24At ps 9 ∧ u24At ps 9 ≤ u24At ps 6 + 1800
  | 8 => byteAt ps 3 = 3 → u24At ps 9 = u24At ps 6
  | 9 => byteAt ps 12 ≤ 31
  | 10 => 1 ≤ byteAt ps 13 ∧ byteAt ps 13 ≤ 6
  | 11 =>
    (∀ j, j < byteAt ps 13 → 1 ≤ (sentPoint ps j).point ∧ (sentPoint ps j).point ≤ 2047) ∧
      ∀ i j, i < j → j < byteAt ps 13 → (sentPoint ps i).point ≠ (sentPoint ps j).point
  | 12 => ∀ j, j < byteAt ps 13 → (sentPoint ps j).point ≠ own
  | 13 =>
    (∀ j, j + 1 < byteAt ps 13 → (sentPoint ps j).passing < (sentPoint ps (j + 1)).passing) ∧
      ∀ j, j + 1 = byteAt ps 13 → (sentPoint ps j).passing ≤ u24At ps 6
  | 14 =>
    (∀ j, j < byteAt ps 13 → (sentPoint ps j).margin ≤ 900) ∧
      ∀ j, j + 1 < byteAt ps 13 → (sentPoint ps (j + 1)).margin ≤ (sentPoint ps j).margin
  | 15 => if byteAt ps 3 = 2 then 1 ≤ byteAt ps 14 ∧ byteAt ps 14 ≤ byteAt ps 13 else byteAt ps 14 = 0
  | 16 => byteAt ps 15 ≤ byteAt ps 13
  | _ => True

/-- Check `k` of STAGE_PUT_FARE passes (R115). -/
def FareCheck (x : FareDest) (k : Nat) : Prop :=
  match k with
  | 1 => 1 ≤ x.code ∧ x.code ≤ 999
  | 2 => 1 ≤ x.name.length ∧ x.name.length ≤ 24 ∧ ∀ c ∈ x.name, 32 ≤ c.toNat ∧ c.toNat ≤ 126
  | 3 => x.base ≤ 50000
  | 4 => x.validity ≤ 30
  | _ => True

/-- Check `k` of STAGE_PUT_RULES passes (R116). -/
def RulesCheck (ps : List Byte) (k : Nat) : Prop :=
  match k with
  | 1 => 500 ≤ u16At ps 0 ∧ u16At ps 0 ≤ 3000 ∧ 500 ≤ u16At ps 2 ∧ u16At ps 2 ≤ 3000
  | 2 => u16At ps 4 ≤ 1000 ∧ u16At ps 6 ≤ 1000
  | 3 => byteAt ps 22 ≤ 4
  | 4 => ∀ j, j < byteAt ps 22 → 1 ≤ byteAt ps (23 + 7 * j) ∧ byteAt ps (23 + 7 * j) ≤ 127 ∧ u24At ps (24 + 7 * j) ≤ 86399 ∧
      1 ≤ u24At ps (27 + 7 * j) ∧ u24At ps (27 + 7 * j) ≤ 86400 ∧ u24At ps (24 + 7 * j) < u24At ps (27 + 7 * j)
  | 5 => 1000 ≤ u16At ps 8 ∧ u16At ps 8 ≤ 2000
  | 6 => byteAt ps 10 = 0 ∨ (2 ≤ byteAt ps 10 ∧ byteAt ps 10 ≤ 9)
  | 7 => u16At ps 11 ≤ 500
  | 8 => CapValid (u24At ps 13) ∧ CapValid (u24At ps 16) ∧ CapValid (u24At ps 19)
  | _ => True

/-- Field `k` of SET_HALT is in its range (R197, R204). -/
def HaltCheck (ps : List Byte) (k : Nat) : Prop :=
  match k with
  | 1 => 1 ≤ u16At ps 0 ∧ u16At ps 0 ≤ 2047
  | 2 => 1 ≤ byteAt ps 2 ∧ byteAt ps 2 ≤ 24 ∧ ∀ j, j < byteAt ps 2 → 32 ≤ byteAt ps (3 + j) ∧ byteAt ps (3 + j) ≤ 126
  | 3 => u16At ps (3 + byteAt ps 2) ≤ 999
  | 4 => byteAt ps (5 + byteAt ps 2) ≤ 120
  | 5 => u16At ps (6 + byteAt ps 2) ≤ 600
  | 6 => 8 ≤ byteAt ps (8 + byteAt ps 2) ∧ byteAt ps (8 + byteAt ps 2) ≤ 64
  | 7 => 8 ≤ u16At ps (9 + byteAt ps 2) ∧ u16At ps (9 + byteAt ps 2) ≤ 448
  | 8 => byteAt ps (11 + byteAt ps 2) ≤ 1
  | _ => True

/-! ### Pages after a recompose (R162) -/

/-- Every page of `e` is the one its state composes; a screen keeps its settings and its health, and PAGE_CHANGED is set where
a page differs from the one in `d` (R162). -/
def PagesFollow (d e : Device) : Prop :=
  e.board.screens.length = d.board.screens.length ∧
    ∀ (k : Nat) (x y : Screen), d.board.screens[k]? = some x → e.board.screens[k]? = some y →
      y = { x with page := e.composePage x, seq := y.seq } ∧ (y.page ≠ x.page → e.hasFlag .pageChanged = true)

/-! ### The change-over (R178, R183 to R185) -/

/-- The unit after LAST_CALL_DONE has been raised while it was ARMED (R178, R179). -/
def Changeover.lastCallRaised (c : Changeover) (today : Date) : Changeover :=
  { c with doneDate := some today, unit := .timing, timer := some { cause := .lastCallDone, elapsed := 0 } }

/-- The test of R178 raises LAST_CALL_DONE on a unit ARMED as `c` says: every STOP or REQUEST call of today is finished, and
the date has not raised it yet. -/
def Device.LastCallDue (d : Device) (c : Changeover) : Prop :=
  c.unit = .armed ∧ c.onLastCall = true ∧ c.doneDate ≠ some d.clock.date ∧
    ∀ h ∈ d.tt.dayList d.clock.date, h.call.kind = .pass ∨ d.callFinished h.call = true

/-- What an apply reports of an item (R183). -/
def itemReport (m : ApplyMode) (found : BankState) : ItemResult :=
  match m with
  | .none => .none
  | .replace | .swap => if found = .ready then .applied else .notApplied found

/-- The unit as R184 sets it after an apply. -/
def Device.coApplied (d : Device) (cause : Trigger) : Changeover :=
  let unit : UnitState := if d.co.ttMode = .swap ∨ d.co.fareMode = .swap then .armed else .disarmed
  { d.co with
    unit := unit
    armed := decide (d.co.ttMode = .swap ∨ d.co.fareMode = .swap)
    timer := none
    skipCount := d.co.skipSetting
    lastResult := some
      { cause := cause, date := d.clock.date, second := d.clock.second,
        outcome := .applied (itemReport d.co.ttMode d.tt.staged.state) (itemReport d.co.fareMode d.fares.staged.state),
        skipAfter := d.co.skipSetting, unitAfter := unit } }

/-- The part `e` is the part `d` after an apply of the cause given (R13, R118, R134, R156, R178, R183 to R185). -/
structure Applied (cause : Trigger) (d e : Device) : Prop where
  /-- Nothing else of the part changes; of the Sale Unit only the sales state, of the notices only SN1, of the Board Composer
  only the lists and the pages: the groups and the finished set stay. Free choices of order are used up (log 6). -/
  frame : e = { d with tt := e.tt, fares := e.fares, co := e.co, ports := e.ports, sched := e.sched,
                       board := { d.board with lists := e.board.lists, screens := e.board.screens },
                       sale := { d.sale with state := e.sale.state }, notices := { d.notices with sn1 := e.notices.sn1 } }
  timetable : e.tt =
    if d.tt.staged.state = .ready then
      match d.co.ttMode with
      | .none => d.tt
      | .replace => { active := d.tt.staged, staged := .cleared }
      | .swap => { active := d.tt.staged, staged := d.tt.active }
    else d.tt
  fares : e.fares =
    if d.fares.staged.state = .ready then
      match d.co.fareMode with
      | .none => d.fares
      | .replace => { active := d.fares.staged, staged := .cleared, generation := d.fares.generation + 1 }
      | .swap => { active := d.fares.staged, staged := d.fares.active, generation := d.fares.generation + 1 }
    else d.fares
  lists : e.board.lists =
    if itemReport d.co.ttMode d.tt.staged.state = .applied then [0, 1, 2, 3].map e.rebuilt else d.board.lists
  pages : itemReport d.co.ttMode d.tt.staged.state = .applied ∨ e.notices.sn1 ≠ d.notices.sn1 → PagesFollow d e
  still : itemReport d.co.ttMode d.tt.staged.state ≠ .applied → e.notices.sn1 = d.notices.sn1 → e.board = d.board
  sales : e.sale.state =
    if itemReport d.co.fareMode d.fares.staged.state = .applied then e.salesStateNow else d.sale.state
  quiet : ¬ e.LastCallDue (d.coApplied cause) → e.co = d.coApplied cause
  raised : e.LastCallDue (d.coApplied cause) → e.co = (d.coApplied cause).lastCallRaised d.clock.date
  told : e.hasFlag .changeoverDone = true

/-- The unit after an expiry that spends a skip (R181). -/
def Device.coSkipped (d : Device) (cause : Trigger) : Changeover :=
  { d.co with
    unit := .armed
    timer := none
    skipCount := d.co.skipCount - 1
    lastResult := some
      { cause := cause, date := d.clock.date, second := d.clock.second, outcome := .skipped
        skipAfter := d.co.skipCount - 1, unitAfter := .armed } }

/-- The part `e` is the part `d` after the expiry of a delay of the cause given: with a skip left it is spent, with the test of
R178, and with none left an apply has run (R181). -/
structure DelayExpired (cause : Trigger) (d e : Device) : Prop where
  applies : d.co.skipCount = 0 → Applied cause d e
  skips : 0 < d.co.skipCount → ¬ d.LastCallDue (d.coSkipped cause) → e = { d with co := d.coSkipped cause }
  raises : 0 < d.co.skipCount → d.LastCallDue (d.coSkipped cause) →
    e = { d with co := (d.coSkipped cause).lastCallRaised d.clock.date }

/-! ### Refusals in their order, and sales (R119 to R130) -/

/-- The first of some cases, in their order, whose condition holds. -/
def firstOf {α : Type} (l : List (α × Bool)) : Option α := (l.find? Prod.snd).map Prod.fst

/-- The departure reference of a ticket as it is judged: none for an open ticket (R119). -/
def Device.reference (d : Device) (t : Option Nat) : Option Departure := t.map d.departure

def Departure.missing : Departure → Bool
  | .notFound | .gone => true
  | .cancelled _ _ | .found _ _ => false

def Departure.isCancelled : Departure → Bool
  | .cancelled _ _ => true
  | .notFound | .gone | .found _ _ => false

/-- A found departure whose entry and call have a property. -/
def Departure.foundWith (f : Option Entry → CallRec → Bool) : Departure → Bool
  | .found e c => f e c
  | .notFound | .gone | .cancelled _ _ => false

/-- The service second by which a ticket is banded: S_d of the call found, or N for an open ticket (R120). -/
def Device.bandSecond (d : Device) (r : Option Departure) : Nat :=
  match r with
  | some (.found _ c) => c.schedDep
  | some .notFound | some .gone | some (.cancelled _ _) | none => d.clock.second

/-- The band of a reference time: PEAK in a window whose day mask includes today's weekday (R120). -/
def FareRules.bandAt (r : FareRules) (day s : Nat) : Band :=
  if ∃ w ∈ r.windows, w.days.getLsbD day = true ∧ w.start ≤ s ∧ s < w.stop then .peak else .offPeak

/-- The per-passenger fare of R121. -/
def farePerPassenger (base typeFactor classFactor bandFactor cap : Nat) : Nat :=
  if cap ≠ 0 ∧ cap < (base * typeFactor * classFactor * bandFactor + 5 * 10 ^ 9) / 10 ^ 10 * 10 then cap
  else (base * typeFactor * classFactor * bandFactor + 5 * 10 ^ 9) / 10 ^ 10 * 10

/-- The group discount of R122. -/
def groupDiscountOf (threshold permille total n : Nat) : Nat :=
  if threshold ≠ 0 ∧ threshold ≤ n then total * permille / 10000 * 10 else 0

/-- The fare of a ticket from the rules and a destination's base fare (R120, R121). -/
def Device.fareOf (d : Device) (r : FareRules) (x : FareDest) (ty : TicketType) (cl : TicketClass) (ref : Option Departure) :
    Nat :=
  farePerPassenger x.base (r.typeFactor ty) (r.classFactor cl)
    (r.bandFactor (r.bandAt (d.clock.date.toNat % 7) (d.bandSecond ref))) (r.cap ty)

/-- A quote slot holds a quote of a number. -/
def slotNumbered (k : Nat) (s : Option Quote) : Prop := ∃ q, s = some q ∧ q.number = k

/-! ### The line (R33, R38 to R40) -/

/-- The frame that a line frame row stands for; the other rows bring none (R33). -/
def lineFrame? (i : Instr) : Option LineFrame :=
  match i with
  | .runFrame t p data => some { kind := 1, train := t, point := p, data := data }
  | .cancel t p rest => some { kind := 2, train := t, point := p, data := 1 :: rest }
  | .reinstate t p rest => some { kind := 2, train := t, point := p, data := 2 :: rest }
  | .platform t p rest => some { kind := 2, train := t, point := p, data := 3 :: rest }
  | .serviceFrameTouchOnly t p data => some { kind := 2, train := t, point := p, data := data }
  | .timemark t p data => some { kind := 3, train := t, point := p, data := data }
  | .stopack t p data => some { kind := 5, train := t, point := p, data := data }
  | .linenotice t p data => some { kind := 6, train := t, point := p, data := data }
  | .lineFrameDiscarded k t p data => some { kind := k, train := t, point := p, data := data }
  | .quote _ _ | .issue _ _ | .void _ _ | .cancelQuote _ _ | .readPage _ _ | .takeCue _ _ | .reportScreen _ _
  | .readDepartures _ _ | .readNotify _ _ | .setNotifyMask _ _ | .stageBeginTimetable _ _ | .stageBeginFares _ _
  | .stagePutDest _ _ | .stagePutCall _ _ | .stagePutFare _ _ | .stagePutRules _ _ | .stageCloseTimetable _ _
  | .stageCloseFares _ _ | .changeoverSet _ _ | .applyNow _ _ | .putNotice _ _ | .removeNotice _ _ | .showNotice _ _
  | .hideNotice _ _ | .setFilter _ _ | .setHalt _ _ | .setScreen _ _ | .setGroup _ _ | .setTime _ _
  | .setSerialBase _ _ | .setPartition _ _ | .readJournal _ _ | .release _ _ | .openSales _ _ | .closeSales _ _
  | .restartLine _ _ | .restart _ _ | .readStatus _ _ | .unknownCommand _ _ | .readPeriod _ _ | .responsePlaced _
  | .powerOn | .resetInput | .startEnd _ | .attemptStart | .attemptAcknowledged | .attemptNotAcknowledged
  | .secondAdvance | .minuteTick | .sweepTick | .dayBoundary | .syncAgeExpiry | .candidateWindowClose | .delayExpiry
  | .quoteExpiry | .noticeExpiry | .buttonPress _ | .buttonRelease _ | .powerLoss | .lampFlash _ => none

/-- A frame that dispatch hands to a block: a kind with a receiver, and the checks of R39 and R40. Whether a SERVICE
frame of fewer than two data bytes is one is free (R39, R65, log 5). -/
def LineFrame.Reaches (own : Nat) (f : LineFrame) : Prop :=
  (f.kind = 1 ∧ 1 ≤ f.train.toNat ∧ f.train.toNat ≤ 9999 ∧ 5 ≤ f.data.length) ∨
    (f.kind = 2 ∧ 1 ≤ f.train.toNat ∧ f.train.toNat ≤ 9999 ∧ (f.data.length < 2 → Config.shortServiceTaken = true)) ∨
    (f.kind = 3 ∧ 5 ≤ f.data.length) ∨
    (f.kind = 5 ∧ 1 ≤ f.train.toNat ∧ f.train.toNat ≤ 9999 ∧ f.point.toNat = own) ∨ (f.kind = 6 ∧ 2 ≤ f.data.length)

/-- The identifier agrees with an enabled filter in every bit its mask compares (R36). -/
def Filter.Matches (x : Filter) (ident : BitVec 29) : Prop := x.enabled = true ∧ ident &&& x.mask = x.code &&& x.mask

/-- What the filters decide of an identifier: the lowest-numbered match with its action, or none and the default action
(R36). -/
def Line.Decides (l : Line) (ident : BitVec 29) (hit : Option Nat) (action : FilterAction) : Prop :=
  (∃ k x, hit = some k ∧ l.filters[k]? = some x ∧ x.Matches ident ∧ action = x.action ∧
    ∀ j y, j < k → l.filters[j]? = some y → ¬ y.Matches ident) ∨
    (hit = none ∧ action = l.defaultAction ∧ ∀ y ∈ l.filters, ¬ y.Matches ident)

/-- A frame that arrives while the part runs, passes the filters and finds the line up. -/
def Device.Hears (d : Device) (f : LineFrame) : Prop :=
  d.phase = .running ∧ d.line.accepts f.ident = true ∧ d.line.state = .up

/-- The state after the arrival of a frame as far as R36: the last hit is written. -/
def State.heard (s : State) (f : LineFrame) : State :=
  { s with dev := { s.dev with line := { s.dev.line with lastHit := s.dev.line.hitOf f.ident } } }

/-- What a selection may leave in a free slot: a fresh frame of an eligible entry, as R42 fixes it (R99, R100). -/
def Device.FreshFrame (d : Device) (f : TxFrame) : Prop :=
  f.failed = 0 ∧ f.begun = false ∧ f.point = d.halt.ownPoint ∧
    ∃ e ∈ d.table.entries, e.stop = .pending ∧ (e.state = .running ∨ e.state = .approaching) ∧ f.train = e.train ∧
      f.waiting = e.waiting

/-- `l'` is the line `l` after a selection among the requests of `d`: a slot that was held keeps its frame, a free one takes a fresh
frame of an eligible request or stays free, and a request that waits is left out only when both slots are held, each by a frame
kept or of a request with no more time to go (R42, R99 to R101). -/
structure Device.Selects (d : Device) (l l' : Line) : Prop where
  frame : l' = { l with slot0 := l'.slot0, slot1 := l'.slot1 }
  kept : ∀ k g, l.slot k = some g → ∃ b, l'.slot k = some { g with later := b }
  fresh : ∀ k g, l'.slot k = some g → l.slot k ≠ none ∨ d.FreshFrame g
  served : ∀ e ∈ d.table.entries, e.stop = .pending → (e.state = .running ∨ e.state = .approaching) →
    (∃ k g, l'.slot k = some g ∧ g.train = e.train) ∨
      ∀ k, ∃ g, l'.slot k = some g ∧ (l.slot k ≠ none ∨ ∃ x ∈ d.table.entries, g.train = x.train ∧ x.stop = .pending ∧
        (x.state = .running ∨ x.state = .approaching) ∧
        (d.timeToGo x < d.timeToGo e ∨ (d.timeToGo x = d.timeToGo e ∧ x.train < e.train)))

/-- The part `e` is the part `d`, whose line is down, after a frame with the last hit given has returned the line to LINE_UP: the
flag is set, SN2 is down, and the slots alone are left to the selection of the return (R36, R38, R47, R168). -/
structure Device.LineReturned (hit : Option Nat) (d e : Device) : Prop where
  frame : e = { d with
    line := { d.line with lastHit := hit, state := .up, slot0 := e.line.slot0, slot1 := e.line.slot1 }
    notices := { d.notices with sn2 := false }, board := { d.board with screens := e.board.screens }
    ports := e.ports, sched := e.sched }
  told : e.hasFlag .lineChanged = true
  pages : d.notices.sn2 = true → PagesFollow d e
  still : d.notices.sn2 = false → e.board = d.board

/-- The state in which the part has become `d`. -/
def State.becomes (s : State) (d : Device) : State := { s with dev := d }

/-- The part with TABLE_FULL set, and its flag in the Office port's set when it was clear (R56). -/
def Device.filled (d : Device) : Device :=
  Device.setFlagIf (!d.table.full) .tableFull { d with table := { d.table with full := true } }

/-! ### Running entries (R51, R55, R65, R71) -/

/-- An entry without the fields that the Forecast Unit writes (R74). -/
def Entry.core (e : Entry) : Entry :=
  { e with forecast := none, firstOverdue := none, overdue := false, overdueLong := false, delayCued := false }

/-- An entry is replaced before another on a full table: the age order of R56. -/
def Entry.replacedBefore (a b : Entry) : Prop :=
  dateDiff a.date b.date < 0 ∨
    (a.date = b.date ∧
      ((a.lastTime = none ∧ b.lastTime ≠ none) ∨
        (∃ x y, a.lastTime = some x ∧ b.lastTime = some y ∧ x < y) ∨ (a.lastTime = b.lastTime ∧ a.train < b.train)))

/-- The states of an entry that a new one may replace (R56). -/
abbrev Entry.Replaceable (e : Entry) : Prop := e.state = .departed ∨ e.state = .passed ∨ e.state = .cancelled

/-- On a full table the entry `v`, the first of the replaceable ones, makes way for a new entry of train `n` (R56). -/
def Device.MakesWay (d : Device) (n : Nat) (v : Entry) : Prop :=
  d.table.Lawful ∧ d.entry? n = none ∧ d.table.entries.length = 24 ∧ v ∈ d.table.entries ∧ v.Replaceable ∧
    ∀ x ∈ d.table.entries, x ≠ v → x.Replaceable → v.replacedBefore x ∧ ¬ x.replacedBefore v

/-- The part `e` has the entries of `d` but for that of train `n` and one that made way for it (R56). -/
def Device.OthersStay (d e : Device) (n : Nat) : Prop :=
  (∀ m, m ≠ n → (∀ v, d.MakesWay n v → m ≠ v.train) → e.entry? m = d.entry? m) ∧
    ∀ v, d.MakesWay n v → e.entry? v.train = none

/-- The entry that a frame of train `n` is carried out on: the one the train has, or the fresh one made for it, with room in
the table or in place of another (R55, R56, R58, R65). -/
def Device.Meets (d : Device) (n : Nat) (e : Entry) : Prop :=
  d.entry? n = some e ∨
    (d.entry? n = none ∧ (d.table.entries.length < 24 ∨ ∃ v, d.MakesWay n v) ∧
      ((∃ h, d.tt.lookup d.clock.date n = some h ∧ e = Entry.fresh n d.clock.date (some h)) ∨
        (d.tt.lookup d.clock.date n = none ∧ d.halt.enterUnlisted = true ∧ e = Entry.fresh n d.clock.date none)))

/-- The entry time of an entry (R70). -/
def Device.clockOn (d : Device) (e : Entry) : Int := dateDiff d.clock.date e.date * 86400 + d.clock.second

/-- The sweep removes an entry whose entry time is `n` (R71). -/
def Entry.RemovedAt (n : Int) (e : Entry) : Prop :=
  match e.state, e.held with
  | .departed, _ | .passed, _ => True
  | .cancelled, some h => (h.call.schedDep : Int) + 300 < n
  | .cancelled, none => True
  | .expected, some h => (h.call.schedDep : Int) + 7200 < n
  | .running, some h | .approaching, some h =>
    if e.overdue = true then ∃ a, e.firstOverdue = some a ∧ (a : Int) + 3600 < n
    else (((e.forecast.map Forecast.departure).getD h.call.schedDep : Nat) : Int) + 3600 < n
  | .atHalt, _ => ∃ a, e.haltArrival = some a ∧ (a : Int) + 3600 < n
  | .expected, none | .running, none => e.stale = true ∧ e.touched = false
  | .approaching, none => False

/-- The ranges of an entry's fields (R51, R61, R74, R92). -/
structure Entry.RangesLawful (e : Entry) : Prop where
  route : ∀ h, e.held = some h → h.call.route.length ≤ 6
  index : ∀ k, e.lastIndex = some k → 1 ≤ k ∧ k ≤ 7
  time : ∀ t, e.lastTime = some t → t ≤ 108119
  arrival : ∀ t, e.haltArrival = some t → t ≤ 108119
  delay : ∀ x, e.delay = some x → -1800 ≤ x ∧ x ≤ 21600
  forecast : ∀ f, e.forecast = some f → f.arrival ≤ f.departure ∧ f.departure ≤ 108119
  waiting : e.waiting ≤ 15
  idle : e.idleSweeps ≤ 3

/-- A RUN frame of the event, second and date byte given, as it is taken on an entry: the event time T of R58. -/
def Device.RunTime (d : Device) (n : Nat) (e : Entry) (dateByte second : Nat) (time : Nat) : Prop :=
  (dateByte = e.date.toNat % 256 ∧ time = min second 108119) ∨
    (d.entry? n = some e ∧ dateByte = (e.date + 1).toNat % 256 ∧ time = min (second + 86400) 108119)

/-- A matched index and event make a new report of an entry (R60). -/
def Entry.NewAt (e : Entry) (k : Nat) (ev : RunEvent) : Prop :=
  ∀ j, e.lastIndex = some j → j < k ∨ (j = k ∧ e.lastEvent ≠ some ev)

/-- A RUN frame of a train that is heard, reaches its entry `e` and is a new report of the event and event time given: at the halt,
away from the route for an UNLISTED train, or at a route point (R36, R39, R55 to R60, R62, R63). -/
structure Device.NewReport (d : Device) (train : BitVec 14) (point : BitVec 11) (data : List Byte) (e : Entry) (ev : RunEvent)
    (time : Nat) : Prop where
  heard : d.Hears { kind := 1, train := train, point := point, data := data }
  number : 1 ≤ train.toNat ∧ train.toNat ≤ 9999
  sized : 5 ≤ data.length ∧ u24At data 1 ≤ 86399
  event : RunEvent.ofCode (byteAt data 0) = some ev
  entry : d.Meets train.toNat e
  timed : d.RunTime train.toNat e (byteAt data 4) (u24At data 1) time
  running : e.effectiveState ≠ .departed ∧ e.effectiveState ≠ .passed
  new : (point.toNat = d.halt.ownPoint ∧ e.NewAt 7 ev) ∨
    (point.toNat ≠ d.halt.ownPoint ∧ e.held = none ∧ (e.effectiveState = .expected ∨ e.effectiveState = .running)) ∨
    (point.toNat ≠ d.halt.ownPoint ∧ ∃ h k r, e.held = some h ∧ h.call.route[k]? = some r ∧ r.point = point.toNat ∧
      (∀ j x, j < k → h.call.route[j]? = some x → x.point ≠ point.toNat) ∧ e.NewAt (k + 1) ev)

/-- A row of a SERVICE frame that is heard and reaches the entry `e` of its train; whether one of fewer than two data bytes does is
free (R36, R39, R55, R56, R65, log 5). -/
structure Device.ServiceTaken (d : Device) (i : Instr) (train : BitVec 14) (point : BitVec 11) (data : List Byte) (e : Entry) :
    Prop where
  heard : d.Hears { kind := 2, train := train, point := point, data := data }
  number : 1 ≤ train.toNat ∧ train.toNat ≤ 9999
  entry : d.Meets train.toNat e
  sized : data.length < 2 → Config.shortServiceTaken = true
  row : (∃ b rest, i = .cancel train point (b :: rest) ∧ data = 1 :: b :: rest) ∨
    (∃ b rest, i = .reinstate train point (b :: rest) ∧ data = 2 :: b :: rest) ∨
    (∃ b rest, i = .platform train point (b :: rest) ∧ data = 3 :: b :: rest) ∨
    (i = .serviceFrameTouchOnly train point data ∧ (data.length < 2 ∨ byteAt data 0 = 0 ∨ 4 ≤ byteAt data 0))

/-- A cue about the train of an entry, stamped with the current second (R170). -/
def Device.cueAbout (d : Device) (k : CueKind) (e : Entry) (priority : Nat) : Cue :=
  { kind := k, train := some e.train, platform := e.held.map (fun h => h.call.platform), notice := none, priority := priority
    second := d.clock.second }

/-- The cues that a new report offers as it makes the entry `e` into `e'`: DELAYED where the recompute sets DELAY_CUED;
MAY_NOT_STOP where the report reaches the cutoff at a route point with the request in PENDING or SENT; and the cue of a move to
APPROACHING (R86, R105, R171, R172). -/
def Device.reportCues (d : Device) (e e' : Entry) : List Cue :=
  (if e.delayCued = false ∧ e'.delayCued = true then [d.cueAbout .delayed e 1] else []) ++
    match e.held with
    | none => []
    | some h =>
      (if belowCutoff e.lastIndex h.call = true ∧ belowCutoff e'.lastIndex h.call = false ∧ (e.stop = .pending ∨ e.stop = .sent) ∧
          e'.lastIndex ≠ some 7 then [d.cueAbout .mayNotStop e 2] else []) ++
      if e.state ≠ .approaching ∧ e'.state = .approaching then
        match h.call.kind with
        | .stop => [d.cueAbout .approaching e 1]
        | .pass => [d.cueAbout .passing e 3]
        | .request =>
          if e.stop = .confirmed then [d.cueAbout .approaching e 1]
          else if e.waiting = 0 then [d.cueAbout .passing e 3]
          else []
      else []

/-- The fields of an entry after a state move to `x`: of a CANCELLED entry it is made to the state before cancel (R63). -/
def Entry.MovedTo (e : Entry) (x : RunState) (e' : Entry) : Prop :=
  if e.state = .cancelled then e'.state = .cancelled ∧ e'.beforeCancel = some x
  else e'.state = x ∧ e'.beforeCancel = e.beforeCancel

/-- The stop state that a REPORT notice leaves: the cutoff first, then the repetition (R103, R105). -/
def stopAfterReport (e e' : Entry) (c : CallRec) : StopState :=
  if belowCutoff e.lastIndex c = true ∧ belowCutoff e'.lastIndex c = false ∧ (e.stop = .pending ∨ e.stop = .sent) then
    .unconfirmed
  else if (e'.state = .running ∨ e'.state = .approaching) ∧ belowCutoff e'.lastIndex c = true ∧ e.stop = .sent
      ∧ 1 ≤ e.waiting then .pending
  else e.stop

/-- A call that a press of a button may choose, with its time to go (R96). -/
def Device.PressMayChoose (d : Device) (dir : Direction) (n : Nat) (toGo : Int) : Prop :=
  toGo ≤ 5400 ∧
    ((∃ e ∈ d.table.entries, ∃ h, e.train = n ∧ e.held = some h ∧ h.call.kind = .request ∧ h.call.direction = dir ∧
        (e.state = .expected ∨ e.state = .running ∨ e.state = .approaching) ∧ belowCutoff e.lastIndex h.call = true ∧
        toGo = (((e.forecast.map Forecast.departure).getD h.call.schedDep : Nat) : Int) - d.clockOn e) ∨
      (-300 ≤ toGo ∧ d.entry? n = none ∧ n ∉ d.board.finished ∧ ∃ h ∈ d.tt.dayList d.clock.date, h.call.train = n ∧
        h.call.kind = .request ∧ h.call.direction = dir ∧ toGo = (h.call.schedDep : Int) - d.clock.second))

/-! ### Lists, pages and notices (R153, R154, R169) -/

/-- A candidate of a group's list with its key (R154). -/
def Device.Candidate (d : Device) (g : Nat) (m : Member) : Prop :=
  (∃ e ∈ d.table.entries, ∃ h, e.held = some h ∧ m = { train := e.train, schedDep := h.call.schedDep } ∧
      e.date = d.clock.date ∧ h.call.kind ≠ .pass ∧ covers (d.board.groupMask g) h.call.platform = true ∧
      (e.state = .expected ∨ e.state = .running ∨ e.state = .approaching ∨ e.state = .atHalt ∨
        (e.state = .cancelled ∧ d.clock.second ≤ h.call.schedDep + 300))) ∨
    (∃ h ∈ d.tt.dayList d.clock.date, m = { train := h.call.train, schedDep := h.call.schedDep } ∧ h.call.kind ≠ .pass ∧
      covers (d.board.groupMask g) h.call.platform = true ∧ d.clock.second ≤ h.call.schedDep + 300 ∧
      (∀ e ∈ d.table.entries, e.train = h.call.train → e.date ≠ d.clock.date) ∧ h.call.train ∉ d.board.finished)

/-- The order of keys (R153). -/
def Member.Before (a b : Member) : Prop := a.schedDep < b.schedDep ∨ (a.schedDep = b.schedDep ∧ a.train < b.train)

/-- The screens after a recompose: a page that differs from the former one takes the next sequence number (R162). -/
def Device.recomposedFrom (d : Device) (screens : List Screen) : List Screen :=
  screens.map (fun x => { x with page := d.composePage x, seq := if d.composePage x = x.page then x.seq else x.seq + 1 })

/-- A notice's moment as sent, all bits set when absent (R202). -/
def momentParams : Option Moment → List Byte
  | some m => be16 m.date.toNat ++ be24 m.second
  | none => [0xFF, 0xFF, 0xFF, 0xFF, 0xFF]

/-- The moment `m` stands at byte `i` of the gathered parameters of PUT_NOTICE; an absent one, of which none is, has all bits of
its date and its second set (R202, R204, log 44). -/
def SentMoment (ps : List Byte) (i : Nat) (m : Moment) : Prop :=
  ¬ (u16At ps i = 65535 ∧ u24At ps (i + 2) = 16777215) ∧ m.date = BitVec.ofNat 16 (u16At ps i) ∧
    m.second = u24At ps (i + 2)

def NoticeForm.code : NoticeForm → Nat
  | .ticker => 1
  | .page => 2

/-- The parameters of PUT_NOTICE for a notice, its shown and in-window flags aside (R164, R204). -/
def Notice.params (n : Notice) : List Byte :=
  be8 n.number ++ be8 n.kind.code ++ be8 n.priority ++ be8 n.target.toNat ++ be8 n.form.code ++ beFlag n.announce
    ++ momentParams n.showFrom ++ momentParams n.showUntil ++ beText n.text

/-- One moment is later than another, by date first and then by second (R21, R167, log 35). -/
def Moment.After (a b : Moment) : Prop := dateDiff b.date a.date < 0 ∨ (a.date = b.date ∧ b.second < a.second)

/-- The checks of PUT_NOTICE on a notice's fields (R164). -/
structure Notice.Valid (n : Notice) : Prop where
  number : 1 ≤ n.number ∧ n.number ≤ 255
  priority : n.priority ≤ 3
  text : textOk 120 n.text = true
  start : ∀ m, n.showFrom = some m → m.second ≤ 86399
  stop : ∀ m, n.showUntil = some m → m.second ≤ 86399
  window : ∀ a b, n.showFrom = some a → n.showUntil = some b → b.After a

/-- A notice is in window at a moment (R167). -/
def Notice.OpenAt (now : Moment) (n : Notice) : Prop :=
  (∀ m, n.showFrom = some m → ¬ m.After now) ∧ ∀ m, n.showUntil = some m → ¬ now.After m

/-- The current moment as the Notice Store reads it (R167). -/
def Device.nowMoment (d : Device) : Moment := { date := d.clock.date, second := d.clock.second }

/-- Every page is recomposed and a NOTICE cue may be offered: what a change in the Notice Store may touch beside the
notices (R169, R172). -/
def Device.noticeChanged (d : Device) (items : List Notice) (cue : Option Notice) (e : Device) : Prop :=
  e = { d with notices := { d.notices with items := items }, board := { d.board with screens := e.board.screens },
               cues := e.cues, ports := e.ports } ∧
    e.board.screens = e.recomposedFrom d.board.screens ∧
    e.cues = (match cue with
      | none => d.cues
      | some n => offerTo d.cues
          { kind := .notice, train := none, platform := none, notice := some n.number, priority := n.priority,
            second := d.clock.second }) ∧
    ((∃ x ∈ d.board.screens, e.composePage x ≠ x.page) → e.hasFlag .pageChanged = true)

/-- The parts of PUT_NOTICE that end in the gathered parameters `ps`: part 0 alone, or the next part after those held
(R190). -/
def Port.EndsWith (x : Port) (part : Byte) (rest ps : List Byte) : Prop :=
  128 ≤ part.toNat ∧
    ((part.toNat % 8 = 0 ∧ rest = ps) ∨
      ∃ a, x.assembly = some a ∧ part.toNat % 8 = a.last + 1 ∧ part.toNat % 8 ≤ 3 ∧ a.gathered ++ rest = ps)

/-- The ticker order of R161: by priority from 3 down, system notices first, then by number. -/
def TickerEntry.Ahead (a b : TickerEntry) : Prop :=
  match a, b with
  | .system j, .system k => j < k
  | .system _, .stored _ _ _ => True
  | .stored _ p _, .system _ => 3 < p
  | .stored m p _, .stored n q _ => q < p ∨ (p = q ∧ m < n)

/-- A stored notice is routed to a screen (R169). -/
def Notice.RoutedTo (n : Notice) (s : Screen) : Prop :=
  n.shown = true ∧ n.inWindow = true ∧ s.enabled = true ∧ s.health = .ok ∧ s.groups &&& n.target ≠ 0

/-! ### What passengers are shown (R88 to R91, R160) -/

/-- The displayed minute of a time (R88). -/
def minuteShown (t : Nat) : Nat := (t + 30) / 60

/-- The countdown of a departure `left` seconds away: "Due" at 60 or less, and otherwise whole minutes rounded up, at most 99
(R90). -/
def CountedDown (left : Int) (c : Countdown) : Prop :=
  (left ≤ 60 → c = .due) ∧
    (60 < left → left ≤ 5940 → ∃ k : Nat, c = .minutes k ∧ (k : Int) * 60 - 60 < left ∧ left ≤ (k : Int) * 60) ∧
    (5940 < left → c = .minutes 99)

/-- The status word and the countdown of a departure at `dep` booked for `sched`, with the current time `n` (R89, R90). -/
def ShownAs (clock : ClockState) (cancelled overdueLong : Bool) (dep sched : Nat) (n : Int) (w : StatusWord) (c : Countdown) :
    Prop :=
  if clock = .unset then w = .none ∧ c = .none
  else if cancelled = true then w = .cancelled ∧ c = .none
  else
    w = (if overdueLong = true then .delayed else if minuteShown dep = minuteShown sched then .onTime
         else .exp ((minuteShown dep + 180) % 1440)) ∧
      CountedDown ((dep : Int) - n) c

/-- The fields of a row of train `t` with the call and stop state given, its status word and countdown aside (R160). -/
def RowFields (t : Nat) (h : HeldCall) (stop : StopState) (r : Row) : Prop :=
  r.train = t ∧ r.schedMinute = minuteShown h.call.schedDep ∧ r.dest = h.name ∧ r.platform = h.call.platform ∧
    r.stopText = if h.call.kind = .request then
        some (match stop with
          | .none => .requestStop
          | .pending | .sent => .stopRequested
          | .confirmed => .stopping
          | .unconfirmed => .mayNotStop)
      else none

/-- The row of a LISTED entry; the departure of an entry without a forecast is left free (R160, log 12). -/
def Device.EntryRow (d : Device) (e : Entry) (h : HeldCall) (r : Row) : Prop :=
  RowFields e.train h e.stop r ∧ ∃ dep, (∀ f, e.forecast = some f → dep = f.departure) ∧
    ShownAs d.clock.state (e.state == .cancelled) e.overdueLong dep h.call.schedDep (d.clockOn e) r.status r.countdown

/-- Dep of the timetable forecast (R91). -/
def timetableDep (dwell : Nat) (c : CallRec) : Nat :=
  if c.kind = .pass then c.schedDep else max c.schedDep (c.schedArr + dwell)

/-- The row of a day-list call without an entry (R91, R160). -/
def Device.CallRow (d : Device) (h : HeldCall) (r : Row) : Prop :=
  RowFields h.call.train h .none r ∧
    ShownAs d.clock.state false false (timetableDep d.halt.dwell h.call) h.call.schedDep d.clock.second r.status r.countdown

/-- The row, if any, of a member of a list: from its entry of today, else from its day-list call, else none (R160, log 28). -/
def Device.RowOf (d : Device) (m : Member) (row : Option Row) : Prop :=
  (∀ e h, e ∈ d.table.entries → e.train = m.train → e.date = d.clock.date → e.held = some h →
    ∃ r, row = some r ∧ d.EntryRow e h r) ∧
  ((∀ e ∈ d.table.entries, e.train = m.train → e.date = d.clock.date → e.held = none) →
    (∀ h ∈ d.tt.dayList d.clock.date, h.call.train = m.train → ∃ r, row = some r ∧ d.CallRow h r) ∧
    ((∀ h ∈ d.tt.dayList d.clock.date, h.call.train ≠ m.train) → row = none))

/-- A group whose list a screen shows: one of the screen's groups that is departure-bearing (R152, R159). -/
def Device.ShownGroup (d : Device) (s : Screen) (g : Nat) : Prop :=
  g < 4 ∧ s.groups.getLsbD g = true ∧ d.board.groupMask g ≠ 0

/-- The members of a screen's lists merged into key order, a train once (R159). -/
def Device.Merged (d : Device) (s : Screen) (ms : List Member) : Prop :=
  ms.Pairwise Member.Before ∧ (ms.map Member.train).Nodup ∧ (∀ m ∈ ms, ∃ g, d.ShownGroup s g ∧ m ∈ d.board.list g) ∧
    ∀ g m, d.ShownGroup s g → m ∈ d.board.list g → ∃ x ∈ ms, x.train = m.train ∧ (x = m ∨ x.Before m)

/-! ### Leave and refill (R157) -/

/-- One member leaves a list: the place it frees takes the lowest candidate above the refill key that the list does not hold,
or stays empty (R157). -/
def Refilled (cand : Member → Prop) (gone : Member) (l l' : List Member) : Prop :=
  ∃ rest key, rest = l.filter (fun m => decide (m ≠ gone)) ∧ key = rest.getLast?.getD gone ∧
    ((l' = rest ∧ ∀ c, cand c → key.Before c → ∃ m ∈ rest, m.train = c.train) ∨
      ∃ c, l' = rest ++ [c] ∧ cand c ∧ key.Before c ∧ (∀ m ∈ rest, m.train ≠ c.train) ∧
        ∀ x, cand x → key.Before x → (∀ m ∈ rest, m.train ≠ x.train) → x = c ∨ c.Before x)

/-- Members leave a list one after another, each followed by its refill (R157). -/
def LeftInTurn (cand : Member → Prop) : List Member → List Member → List Member → Prop
  | [], l, l' => l' = l
  | m :: ms, l, l' => ∃ l1, Refilled cand m l l1 ∧ LeftInTurn cand ms l1 l'

/-- A list after the leave test of a minute tick: the members whose train is no longer a candidate have left, in list order
(R157, R158). -/
def LeaveTested (cand : Member → Prop) (l l' : List Member) : Prop :=
  ∃ leaving : List Member, leaving.Sublist l ∧ (∀ m ∈ l, m ∈ leaving ↔ ∀ c, cand c → c.train ≠ m.train) ∧
    LeftInTurn cand leaving l l'

/-! ### Lists and pages at an entry notice (R155 to R158, R162) -/

/-- The laws that the lists rest on: no train twice in the table, in a day list or in a list, and four lists in their shares. -/
def Device.BoardSound (d : Device) : Prop := d.table.Lawful ∧ d.tt.Lawful ∧ d.board.Lawful ∧ d.board.NoTrainTwice

/-- A train is a candidate of a group's list (R154). -/
def Device.CandidateTrain (d : Device) (g n : Nat) : Prop := ∃ c, d.Candidate g c ∧ c.train = n

/-- Some departure list holds a train (R162). -/
def Board.Holds (b : Board) (n : Nat) : Prop := ∃ l ∈ b.lists, ∃ m ∈ l, m.train = n

/-- A list `l` after an entry notice of train `n`: where the train may stay, a list that holds it is kept and one that does not is
rebuilt; where it may not, it leaves a list that holds it, with the refill (R157, R158). -/
structure ListNoticed (cand : Member → Prop) (stays : Prop) (n : Nat) (rebuilt l l' : List Member) : Prop where
  member : ∀ m ∈ l, m.train = n → (stays → l' = l) ∧ (¬ stays → Refilled cand m l l')
  absent : (∀ m ∈ l, m.train ≠ n) → (stays → l' = rebuilt) ∧ (¬ stays → l' = l)

/-- The board of `e` is that of `d` after an ENTERED, REPORT, CANCEL or REINSTATE notice of train `n`, `gone` saying that it is a
REPORT of a train DEPARTED or PASSED: the lists, and a recompose where one is rebuilt or holds the train (R158, R162). -/
structure BoardNoticed (n : Nat) (gone : Prop) (d e : Device) : Prop where
  frame : e.board = { d.board with lists := e.board.lists, screens := e.board.screens }
  lists : e.board.lists.length = 4 ∧ ∀ g, g < 4 →
    ListNoticed (e.Candidate g) (¬ gone ∧ e.CandidateTrain g n) n (e.rebuilt g) (d.board.list g) (e.board.list g)
  pages : d.board.Holds n ∨ (¬ gone ∧ ∃ g, g < 4 ∧ e.CandidateTrain g n) → PagesFollow d e
  still : ¬ d.board.Holds n → (gone ∨ ∀ g, g < 4 → ¬ e.CandidateTrain g n) → e.board = d.board

/-- A group covers one of two platforms (R152, R158). -/
def Board.CoversOne (b : Board) (g p q : Nat) : Prop := covers (b.groupMask g) p = true ∨ covers (b.groupMask g) q = true

/-- The board of `e` is that of `d` after a PLATFORM notice of train `n` with the former and the new platform (R158, R162). -/
structure PlatformNoticed (n former new : Nat) (d e : Device) : Prop where
  frame : e.board = { d.board with lists := e.board.lists, screens := e.board.screens }
  lists : e.board.lists.length = 4 ∧ ∀ g, g < 4 →
    (d.board.CoversOne g former new → e.board.list g = e.rebuilt g) ∧
      (¬ d.board.CoversOne g former new → e.board.list g = d.board.list g)
  pages : d.board.Holds n ∨ (∃ g, g < 4 ∧ d.board.CoversOne g former new) → PagesFollow d e
  still : ¬ d.board.Holds n → (∀ g, g < 4 → ¬ d.board.CoversOne g former new) → e.board = d.board

/-- The part `e` is the part `d` after the entry `v` has been removed: the finished set is judged first, then the train leaves every
list that holds it, with the refill (R73, R108, R155, R157, R158, R162). -/
structure Removed (v : Entry) (d e : Device) : Prop where
  frame : e = { d with
    table := { d.table with entries := d.table.entries.filter (fun x => decide (x.train ≠ v.train)) }
    board := { d.board with finished := e.board.finished, lists := e.board.lists, screens := e.board.screens }
    line := e.line, sru := e.sru, co := e.co, ports := e.ports, sched := e.sched }
  finished : e.board.finished =
    if v.date = d.clock.date ∧ (v.state = .departed ∨ v.state = .passed ∨ v.state = .cancelled) ∧
        (d.tt.lookup d.clock.date v.train).isSome = true ∧ v.train ∉ d.board.finished ∧ d.board.finished.length < 96 then
      d.board.finished ++ [v.train]
    else d.board.finished
  lists : e.board.lists.length = 4 ∧ ∀ g, g < 4 →
    ListNoticed (e.Candidate g) False v.train (e.rebuilt g) (d.board.list g) (e.board.list g)
  pages : d.board.Holds v.train → PagesFollow d e
  still : ¬ d.board.Holds v.train → e.board.lists = d.board.lists ∧ e.board.screens = d.board.screens

/-- Entries removed one after another (R71, R73). -/
def RemovedInTurn : List Entry → Device → Device → Prop
  | [], d, e => e = d
  | v :: vs, d, e => ∃ m, Removed v d m ∧ RemovedInTurn vs m e

/-- `u` is the part that a command of train `n` works on, with the entry `e`: `d` itself where the train has that entry, and
otherwise the part after the train has been entered, on a full table after the entry that makes way has been removed
(R55, R56, R64, R158). -/
def Device.EntersAs (d : Device) (n : Nat) (e : Entry) (u : Device) : Prop :=
  (d.entry? n = some e ∧ u = d) ∨
    (d.entry? n = none ∧ (∃ x, u.entry? n = some x ∧ x.core = e.core) ∧
      ∃ w : Device, ((d.table.entries.length < 24 ∧ w = d) ∨ ∃ v, d.MakesWay n v ∧ Removed v d w) ∧
        (∀ m, m ≠ n → u.entry? m = w.entry? m) ∧
        u = { w with table := { w.table with entries := u.table.entries }, sru := u.sru, board := u.board, cues := u.cues
                     co := u.co, ports := u.ports, sched := u.sched } ∧
        BoardNoticed n False w u)

/-! ### Layouts (R202, R203) -/

/-- The byte of a value of an enumeration: its place, from 1, in the order of the rule that lists it (R202). -/
def placeOf {α : Type} [DecidableEq α] (order : List α) (x : α) : Byte := BitVec.ofNat 8 (order.idxOf x + 1)

/-- A row as R203 lays it out. -/
def rowLayout (r : Row) : List Byte :=
  be16 r.train ++ be16 ((r.schedMinute + 180) % 1440) ++ be8 r.platform
    ++ (match r.status with
        | .none => [0, 0xFF, 0xFF]
        | .onTime => [1, 0xFF, 0xFF]
        | .exp m => 2 :: be16 m
        | .delayed => [3, 0xFF, 0xFF]
        | .cancelled => [4, 0xFF, 0xFF])
    ++ (match r.countdown with
        | .none => [255]
        | .due => [254]
        | .minutes k => be8 k)
    ++ (match r.stopText with
        | none => [0]
        | some x => [placeOf [.requestStop, .stopRequested, .stopping, .mayNotStop] x])
    ++ beText r.dest

/-- The texts of the system notices; the byte of the dash is free (R168, log 14). -/
def systemNoticeText : Nat → Text
  | 1 => ascii "Ticket machine out of use " ++ Config.dashCode :: ascii " please buy on the train"
  | 2 => ascii "Request stop service unavailable " ++ Config.dashCode :: ascii " signal the driver"
  | _ => ascii "Times shown may not be accurate"

/-- A notice on a page: its id, priority and text (R168, R203). -/
def noticeLayout : TickerEntry → List Byte
  | .system k => be16 (256 + k) ++ [3] ++ beText (systemNoticeText k)
  | .stored k q text => be16 k ++ be8 q ++ beText text

/-- The page of screen `k` as R203 lays it out. -/
def pageLayout (k : Nat) (x : Screen) : List Byte :=
  be8 k ++ be16 x.seq.toNat ++ beFlag x.page.blank
    ++ (match x.page.clockMinute with
        | some m => be16 m
        | none => [0xFF, 0xFF])
    ++ beText x.page.haltName
    ++ (match x.page.body with
        | .none => [0]
        | .rows rs => 1 :: be8 rs.length ++ rs.flatMap rowLayout
        | .noTrains => [2]
        | .takeover t => 3 :: noticeLayout t)
    ++ be8 x.page.ticker.length ++ x.page.ticker.flatMap noticeLayout

/-! ### READ_DEPARTURES (R200, R203) -/

/-- F, A and Dep, each or absent (R202, R203). -/
def forecastLayout : Option Forecast → List Byte
  | none => List.replicate 9 0xFF
  | some f => be24 (f.delay % 16777216).toNat ++ be24 f.arrival ++ be24 f.departure

/-- The bytes of a departure: a row, then the fields of R200. An UNLISTED entry carries its train number and state, with every
other field absent or 0 (log 29), and so do the entry's own fields of a day-list call. -/
def Device.DepartureLaidOut (d : Device) (it : DepartureItem) (bs : List Byte) : Prop :=
  match it with
  | .entry e =>
    (∀ h, e.held = some h → ∃ r, d.EntryRow e h r ∧ bs = rowLayout r ++ [1, 1,
        placeOf [.expected, .running, .approaching, .atHalt, .departed, .passed, .cancelled] e.state]
      ++ be8 (e.lastIndex.getD 0) ++ forecastLayout e.forecast
      ++ be8 ((if e.overdue = true then 1 else 0) + (if e.overdueLong = true then 2 else 0)
          + (if e.stale = true then 4 else 0) + (if e.delayCued = true then 8 else 0))
      ++ [placeOf [.none, .pending, .sent, .confirmed, .unconfirmed] e.stop] ++ be8 e.waiting) ∧
    (e.held = none → bs = be16 e.train ++ [0xFF, 0xFF, 0, 0, 0xFF, 0xFF, 255, 0, 0] ++ [1, 2,
        placeOf [.expected, .running, .approaching, .atHalt, .departed, .passed, .cancelled] e.state, 0]
      ++ forecastLayout none ++ [0, 0, 0])
  | .call h => ∃ r, d.CallRow h r ∧ bs = rowLayout r ++ [2, 0, 0, 0]
      ++ forecastLayout (some { delay := 0, arrival := h.call.schedArr, departure := timetableDep d.halt.dwell h.call })
      ++ [0, 1, 0]

/-- A departure of a direction that READ_DEPARTURES may list, with its key: the S_d of its call, less 86400 for each day back,
and its train number (R154, R200). -/
def Device.MayList (d : Device) (dir : Direction) (it : DepartureItem) (sched : Int) (train : Nat) : Prop :=
  match it with
  | .entry e =>
    e ∈ d.table.entries ∧ train = e.train ∧ dateDiff e.date d.clock.date ≤ 0 ∧ ∃ h, e.held = some h ∧
      h.call.direction = dir ∧ sched = (h.call.schedDep : Int) + dateDiff e.date d.clock.date * 86400 ∧
      (e.state = .expected ∨ e.state = .running ∨ e.state = .approaching ∨ e.state = .atHalt ∨
        (e.state = .cancelled ∧ d.clockOn e ≤ (h.call.schedDep : Int) + 300))
  | .call h =>
    h ∈ d.tt.dayList d.clock.date ∧ train = h.call.train ∧ sched = h.call.schedDep ∧ h.call.direction = dir ∧
      d.clock.second ≤ h.call.schedDep + 300 ∧
      (∀ e ∈ d.table.entries, e.train = h.call.train → e.date ≠ d.clock.date) ∧ h.call.train ∉ d.board.finished

/-- A listed departure with its key and its bytes. -/
structure ListedDeparture where
  item : DepartureItem
  sched : Int
  train : Nat
  bytes : List Byte
deriving DecidableEq, Repr

/-- The order of READ_DEPARTURES (R200). -/
def ListedDeparture.Before (a b : ListedDeparture) : Prop := a.sched < b.sched ∨ (a.sched = b.sched ∧ a.train < b.train)

/-- The departures that READ_DEPARTURES lists of a direction, up to a count: those of lowest key in key order, each train once
(R200). -/
def Device.ListsDepartures (d : Device) (dir : Direction) (count : Nat) (ls : List ListedDeparture) : Prop :=
  ls.length ≤ count ∧ ls.Pairwise ListedDeparture.Before ∧ (ls.map ListedDeparture.train).Nodup ∧
    (∀ x ∈ ls, d.MayList dir x.item x.sched x.train ∧ d.DepartureLaidOut x.item x.bytes) ∧
    ∀ it sched train, d.MayList dir it sched train →
      (∃ x ∈ ls, x.train = train ∧ (x.item = it ∨ x.sched ≤ sched)) ∨
        (ls.length = count ∧ ∀ x ∈ ls, x.sched < sched ∨ (x.sched = sched ∧ x.train < train))

/-! ### READ_STATUS (R201) -/

/-- A timetable bank header (R1); an absent id is sent as 0 (log 15). -/
def timetableHeader (b : TimetableBank) : List Byte :=
  be16 (b.id.getD 0) ++ [placeOf [.empty, .loading, .ready, .broken] b.state] ++ be8 b.calls.length ++ be8 b.names.length

/-- A fare bank header (R113); an absent id is sent as 0 (log 15). -/
def fareHeader (b : FareBank) : List Byte :=
  be16 (b.id.getD 0) ++ be8 b.dests.length ++ beFlag b.rules.isSome ++ [placeOf [.empty, .loading, .ready, .broken] b.state]

/-- An item of the last result: NONE 1, APPLIED 2, or NOT_APPLIED 3 with the state found (R184). -/
def itemLayout : ItemResult → List Byte
  | .none => [1, 0]
  | .applied => [2, 0]
  | .notApplied s => [3, placeOf [.empty, .loading, .ready, .broken] s]

/-- The last result (R184); an absent one is absent in every field (log 15). -/
def resultLayout : Option LastResult → List Byte
  | none => [0, 0xFF, 0xFF, 0xFF, 0xFF, 0xFF, 0, 0, 0, 0, 0, 0, 0]
  | some r => placeOf [.dayBoundary, .lastCallDone, .applyNow] r.cause :: be16 r.date.toNat ++ be24 r.second
      ++ (match r.outcome with
          | .applied t f => 1 :: itemLayout t ++ itemLayout f
          | .skipped => [2, 0, 0, 0, 0])
      ++ be8 r.skipAfter ++ [placeOf [.disarmed, .armed, .timing] r.unitAfter]

/-- A transmit slot: EMPTY 1 or QUEUED 2, train, failed attempts, begun flag (R41, log 15). -/
def slotLayout : Option TxFrame → List Byte
  | none => [1, 0, 0, 0, 0]
  | some f => 2 :: be16 f.train ++ be8 f.failed ++ beFlag f.begun

/-- A stored notice in section 4, with the number of screens that it is routed to (R163, R169). -/
def Device.noticeLine (d : Device) (n : Notice) : List Byte :=
  be8 n.number ++ [placeOf [.office, .canned] n.kind] ++ be8 n.priority ++ beFlag n.shown ++ beFlag n.inWindow
    ++ be8 (d.board.screens.filter (fun s => decide (n.shown = true ∧ n.inWindow = true ∧ s.enabled = true ∧ s.health = .ok ∧
        s.groups &&& n.target ≠ 0))).length

/-- The halt settings in the order and encoding of SET_HALT (R197, R204). -/
def HaltSettings.params (h : HaltSettings) : List Byte :=
  be16 h.ownPoint ++ beText h.name ++ be16 h.fareCode ++ be8 h.dwell ++ be16 h.early ++ be8 h.reserve ++ be16 h.uploadMark
    ++ beFlag h.enterUnlisted

/-- The bytes of status section `n`, with the widths and absent codes of log 15; a next serial of 16777216, which no 3 bytes
hold, is sent as 3 bytes left free (R31, R36, R41, R46, R47, R1, R113, R175, R137, R142, R163, R151, R152, R170, R52, R95,
R135, R197, R201, R202, log 13). -/
def Device.SectionLaidOut (d : Device) (n : Nat) (bs : List Byte) : Prop :=
  match n with
  | 1 => bs = be16 d.clock.date.toNat ++ be24 d.clock.second ++ [placeOf [.unset, .synced, .free] d.clock.state]
      ++ (if d.clock.state = .synced then be16 d.clock.syncAge else [0xFF, 0xFF])
      ++ (match d.clock.candidate with
          | some k => 1 :: be16 k.date.toNat ++ be24 k.second ++ be8 k.age
          | none => [0, 0xFF, 0xFF, 0xFF, 0xFF, 0xFF, 0xFF])
  | 2 => bs = d.line.filters.flatMap (fun x => beFlag x.enabled ++ be32 x.code.toNat ++ be32 x.mask.toNat
        ++ [placeOf [.accept, .reject] x.action])
      ++ [placeOf [.accept, .reject] d.line.defaultAction] ++ be8 (d.line.lastHit.getD 255)
      ++ slotLayout d.line.slot0 ++ slotLayout d.line.slot1 ++ be8 d.line.failures ++ [placeOf [.up, .down] d.line.state]
  | 3 => bs = timetableHeader d.tt.active ++ timetableHeader d.tt.staged ++ fareHeader d.fares.active
      ++ fareHeader d.fares.staged ++ be8 d.fares.generation.toNat
      ++ be8 ((if d.co.onDayBoundary = true then 1 else 0) + (if d.co.onLastCall = true then 2 else 0))
      ++ be16 d.co.delay ++ be8 d.co.skipSetting ++ [placeOf [.none, .replace, .swap] d.co.ttMode]
      ++ [placeOf [.none, .replace, .swap] d.co.fareMode] ++ beFlag d.co.armed ++ be8 d.co.skipCount ++ beDate? d.co.doneDate
      ++ [placeOf [.disarmed, .armed, .timing] d.co.unit]
      ++ (match d.co.timer with
          | some t => placeOf [.dayBoundary, .lastCallDone] t.cause :: be16 (d.co.delay - t.elapsed)
          | none => [0, 0xFF, 0xFF])
      ++ resultLayout d.co.lastResult
  | 4 => ∃ next : List Byte,
      (d.journal.nextSerial = none → next = [0xFF, 0xFF, 0xFF]) ∧
      (∀ k, d.journal.nextSerial = some k → k < 16777216 → next = be24 k) ∧ next.length = 3 ∧
      bs = be8 d.journal.partition ++ be8 (64 - d.journal.partition) ++ be8 d.notices.items.length
        ++ be16 d.journal.records.length ++ be16 (8 * d.journal.partition - d.journal.records.length)
        ++ be24? (d.journal.records.head?.map JournalRec.serial) ++ be24? (d.journal.records.getLast?.map JournalRec.serial)
        ++ next
        ++ [match d.journal.nextSerial with
            | none => 1
            | some k => if k ≤ 16777214 then 2 else 3]
        ++ be16 d.halt.uploadMark ++ be24? d.journal.highest ++ be8 d.notices.items.length
        ++ be8 (64 - d.journal.partition - d.notices.items.length) ++ d.notices.items.flatMap d.noticeLine
  | 5 => bs = d.board.screens.flatMap (fun x => beFlag x.enabled ++ be8 x.groups.toNat ++ [placeOf [.ok, .fault] x.health]
        ++ be16 x.seq.toNat)
      ++ d.board.groups.flatMap (fun m => be8 m.toNat) ++ be8 d.cues.length
  | 6 => bs = be8 d.table.entries.length ++ beFlag d.table.full
      ++ [placeOf [.released, .pressed] d.sru.up.state, placeOf [.released, .pressed] d.sru.down.state]
      ++ be16 (d.sru.up.chosen.getD 0) ++ be16 (d.sru.down.chosen.getD 0)
      ++ [placeOf [.off, .steady, .flashing] d.sru.up.lamp, placeOf [.off, .steady, .flashing] d.sru.down.lamp]
      ++ d.halt.params ++ [placeOf [.closed, .suspended, .restricted, .isOpen] d.sale.state] ++ beFlag d.sale.closedFlag
      ++ [d.ports.sale.mask, d.ports.board.mask, d.ports.office.mask]
  | _ => False

/-! ### The forecast arithmetic (R80, R81, R86) -/

/-- Dep from an arrival A (R80, R81). -/
def Entry.DepFrom (e : Entry) (c : CallRec) (W : Nat) (n : Int) (a dep : Nat) : Prop :=
  if e.state = .atHalt then (dep : Int) = min (max (max (c.schedDep : Int) (a + W)) n) 108119
  else dep = if c.kind = .pass then a else min (max c.schedDep (a + W)) 108119

/-- DELAY_CUED after a recompute that left the departure given (R86). -/
def Entry.cuedAfter (e : Entry) (c : CallRec) (dep : Nat) : Bool :=
  if c.kind = .pass then e.delayCued
  else if 300 ≤ (dep : Int) - c.schedDep then true
  else if (dep : Int) - c.schedDep < 240 then false else e.delayCued

/-! ### The clock and the halt settings (R23, R28 to R31, R197) -/

/-- The difference of a time from the clock's, counted in seconds across dates (R24). -/
def Clock.ahead (c : Clock) (x : Date) (sec : Nat) : Int := dateDiff x c.date * 86400 + sec - c.second

/-- The Clock after a step to a time (R23, R29, R30). -/
def Clock.afterStep (c : Clock) (x : Date) (sec : Nat) : Clock :=
  { date := x
    second := sec
    state := .synced
    syncAge := 0
    candidate := none
    dueMinute := c.dueMinute + if c.second / 60 < (c.second + (c.ahead x sec).toNat) / 60 then 1 else 0
    dueSweep := c.dueSweep + if c.second / 600 < (c.second + (c.ahead x sec).toNat) / 600 then 1 else 0
    dueDay := c.dueDay + if 0 < c.ahead x sec ∧ 0 < dateDiff x c.date then 1 else 0 }

/-- The entries after every entry in scope has been recomputed (R76, R77). -/
def Device.recomputed (d : Device) (tick : Bool) : List Entry :=
  d.table.entries.map (fun e =>
    if e.inScope d.clock.state = true then (e.recompute d.halt.dwell d.halt.early (d.clockOn e) tick).1 else e)

/-- The part `e` is the part `d` after its Clock has become `c` with a change of the clock state: the sales state and SN3
follow it, the entries have become the ones given, and every page is recomposed (R31, R76, R134, R162, R168). -/
structure ClockHandedOn (c : Clock) (entries : List Entry) (d e : Device) : Prop where
  frame : e = { d with clock := c, table := { d.table with entries := entries }, sale := { d.sale with state := e.sale.state },
                       notices := { d.notices with sn1 := e.notices.sn1, sn3 := e.notices.sn3 },
                       board := { d.board with screens := e.board.screens }, cues := e.cues, ports := e.ports,
                       sched := e.sched }
  sales : e.SalesLawful
  sn3 : e.notices.sn3 = true ↔ c.state ≠ .synced
  pages : PagesFollow d e

/-- The part `e` is the part `d` after a step of the clock to a time (R23, R31, R76). -/
def Stepped (x : Date) (sec : Nat) (d e : Device) : Prop :=
  if d.clock.state = .synced then e = { d with clock := d.clock.afterStep x sec, ports := e.ports }
  else ClockHandedOn (d.clock.afterStep x sec)
    (if d.clock.state = .unset then ({ d with clock := d.clock.afterStep x sec } : Device).recomputed false
     else d.table.entries) d e

/-- The ranges of the halt settings (R197). -/
structure HaltSettings.Valid (h : HaltSettings) : Prop where
  ownPoint : 1 ≤ h.ownPoint ∧ h.ownPoint ≤ 2047
  name : textOk 24 h.name = true
  fareCode : h.fareCode ≤ 999
  dwell : h.dwell ≤ 120
  early : h.early ≤ 600
  reserve : 8 ≤ h.reserve ∧ h.reserve ≤ 64
  uploadMark : 8 ≤ h.uploadMark ∧ h.uploadMark ≤ 448

/-! ### Rows by what takes them -/

/-- The rows that the part takes only while it runs: frames, attempts, ticks, expiries, buttons and lamps (R195). -/
def isInput (i : Instr) : Bool :=
  match i with
  | .runFrame _ _ _ | .cancel _ _ _ | .reinstate _ _ _ | .platform _ _ _ | .serviceFrameTouchOnly _ _ _
  | .timemark _ _ _ | .stopack _ _ _ | .linenotice _ _ _ | .lineFrameDiscarded _ _ _ _ | .attemptStart
  | .attemptAcknowledged | .attemptNotAcknowledged | .minuteTick | .sweepTick | .dayBoundary | .syncAgeExpiry
  | .candidateWindowClose | .delayExpiry | .quoteExpiry | .noticeExpiry | .buttonPress _ | .buttonRelease _
  | .lampFlash _ => true
  | .quote _ _ | .issue _ _ | .void _ _ | .cancelQuote _ _ | .readPage _ _ | .takeCue _ _ | .reportScreen _ _
  | .readDepartures _ _ | .readNotify _ _ | .setNotifyMask _ _ | .stageBeginTimetable _ _ | .stageBeginFares _ _
  | .stagePutDest _ _ | .stagePutCall _ _ | .stagePutFare _ _ | .stagePutRules _ _ | .stageCloseTimetable _ _
  | .stageCloseFares _ _ | .changeoverSet _ _ | .applyNow _ _ | .putNotice _ _ | .removeNotice _ _ | .showNotice _ _
  | .hideNotice _ _ | .setFilter _ _ | .setHalt _ _ | .setScreen _ _ | .setGroup _ _ | .setTime _ _
  | .setSerialBase _ _ | .setPartition _ _ | .readJournal _ _ | .release _ _ | .openSales _ _ | .closeSales _ _
  | .restartLine _ _ | .restart _ _ | .readStatus _ _ | .unknownCommand _ _ | .readPeriod _ _ | .responsePlaced _
  | .powerOn | .resetInput | .startEnd _ | .secondAdvance | .powerLoss => false

/-- A port command row as its command, port and parameter bytes; the item byte of STAGE_BEGIN and STAGE_CLOSE stands first
among the parameters (R194, R204). -/
structure PortCommand where
  cmd : Cmd
  port : PortId
  params : List Byte
deriving DecidableEq, Repr

/-- The port command that a row stands for; the rows that are periods given by bytes, events and frames are none. -/
def portCommand? (i : Instr) : Option PortCommand :=
  match i with
  | .quote p ps => some { cmd := .quote, port := p, params := ps }
  | .issue p ps => some { cmd := .issue, port := p, params := ps }
  | .void p ps => some { cmd := .void, port := p, params := ps }
  | .cancelQuote p ps => some { cmd := .cancelQuote, port := p, params := ps }
  | .readPage p ps => some { cmd := .readPage, port := p, params := ps }
  | .takeCue p ps => some { cmd := .takeCue, port := p, params := ps }
  | .reportScreen p ps => some { cmd := .reportScreen, port := p, params := ps }
  | .readDepartures p ps => some { cmd := .readDepartures, port := p, params := ps }
  | .readNotify p ps => some { cmd := .readNotify, port := p, params := ps }
  | .setNotifyMask p ps => some { cmd := .setNotifyMask, port := p, params := ps }
  | .stageBeginTimetable p ps => some { cmd := .stageBegin, port := p, params := 1 :: ps }
  | .stageBeginFares p ps => some { cmd := .stageBegin, port := p, params := 2 :: ps }
  | .stagePutDest p ps => some { cmd := .stagePutDest, port := p, params := ps }
  | .stagePutCall p ps => some { cmd := .stagePutCall, port := p, params := ps }
  | .stagePutFare p ps => some { cmd := .stagePutFare, port := p, params := ps }
  | .stagePutRules p ps => some { cmd := .stagePutRules, port := p, params := ps }
  | .stageCloseTimetable p ps => some { cmd := .stageClose, port := p, params := 1 :: ps }
  | .stageCloseFares p ps => some { cmd := .stageClose, port := p, params := 2 :: ps }
  | .changeoverSet p ps => some { cmd := .changeoverSet, port := p, params := ps }
  | .applyNow p ps => some { cmd := .applyNow, port := p, params := ps }
  | .putNotice p ps => some { cmd := .putNotice, port := p, params := ps }
  | .removeNotice p ps => some { cmd := .removeNotice, port := p, params := ps }
  | .showNotice p ps => some { cmd := .showNotice, port := p, params := ps }
  | .hideNotice p ps => some { cmd := .hideNotice, port := p, params := ps }
  | .setFilter p ps => some { cmd := .setFilter, port := p, params := ps }
  | .setHalt p ps => some { cmd := .setHalt, port := p, params := ps }
  | .setScreen p ps => some { cmd := .setScreen, port := p, params := ps }
  | .setGroup p ps => some { cmd := .setGroup, port := p, params := ps }
  | .setTime p ps => some { cmd := .setTime, port := p, params := ps }
  | .setSerialBase p ps => some { cmd := .setSerialBase, port := p, params := ps }
  | .setPartition p ps => some { cmd := .setPartition, port := p, params := ps }
  | .readJournal p ps => some { cmd := .readJournal, port := p, params := ps }
  | .release p ps => some { cmd := .release, port := p, params := ps }
  | .openSales p ps => some { cmd := .openSales, port := p, params := ps }
  | .closeSales p ps => some { cmd := .closeSales, port := p, params := ps }
  | .restartLine p ps => some { cmd := .restartLine, port := p, params := ps }
  | .restart p ps => some { cmd := .restart, port := p, params := ps }
  | .readStatus p ps => some { cmd := .readStatus, port := p, params := ps }
  | .unknownCommand _ _ | .readPeriod _ _ | .responsePlaced _ | .powerOn | .resetInput | .startEnd _
  | .runFrame _ _ _ | .cancel _ _ _ | .reinstate _ _ _ | .platform _ _ _ | .serviceFrameTouchOnly _ _ _
  | .timemark _ _ _ | .stopack _ _ _ | .linenotice _ _ _ | .lineFrameDiscarded _ _ _ _ | .attemptStart
  | .attemptAcknowledged | .attemptNotAcknowledged | .secondAdvance | .minuteTick | .sweepTick | .dayBoundary
  | .syncAgeExpiry | .candidateWindowClose | .delayExpiry | .quoteExpiry | .noticeExpiry | .buttonPress _
  | .buttonRelease _ | .powerLoss | .lampFlash _ => none

end Sys2Proof.Machine
end

