-- ==== Sys2Proof/Certificates/Slice0/Obligations.lean ====
section
/-!
DEFINITION. The statements for the provers, each citing the rules of spec/ that it formalises.
A command's outcome is stated as the next state it answers, under hypotheses on the state and the operands alone.
-/

open Sys2Proof Sys2Proof.Machine

/-! ## The queue, the ports and the starts -/

/-- One step takes the command at the front of the queue and executes it with the rest of the queue left waiting; the part answers,
discards or ignores whatever it meets, so every command answers a next state and leaves the queue. With no command waiting the
part idles, which is the model's choice (log 20). -/
def Obligations.StepRunsFrontCommand : Prop :=
  ((∀ (c : Instr) (rest : List Instr) (d : Device),
    step { dev := d, pending := c :: rest } = exec c { dev := d, pending := rest }) ∧
  ∀ d : Device, step { dev := d, pending := [] } = .next { dev := d, pending := [] }) ∧
  (∀ (i : Instr) (s : State), ∃ t, exec i s = .next t ∧ t.pending = s.pending)

/-- A start that finds the backup check word invalid is a cold start: every block takes the cold-start value its chapter
gives, and each port holds its start response (R17, R20, R35, R50, R53, R98, R113, R118, R124, R136, R149, R151, R152, R170,
R175, R186, R195, R197, R198). The machine starts as a power-on cold start leaves it, which is the model's choice (log 1). -/
def Obligations.ColdStartGivesColdValues : Prop :=
  (∀ (s : State) (c : StartCause), s.dev.phase = .starting c →
    ∃ t, exec (.startEnd false) s = .next t ∧ t.pending = s.pending ∧ t.dev.phase = .running ∧
      (t.dev.clock.date = 0 ∧ t.dev.clock.second = 0 ∧ t.dev.clock.state = .unset ∧ t.dev.clock.candidate = none) ∧
      (t.dev.tt.active = { id := none, names := [], calls := [], state := .empty } ∧ t.dev.tt.staged = t.dev.tt.active) ∧
      (t.dev.line.filters = List.replicate 8 { enabled := false, code := 0, mask := 0, action := .reject } ∧
        t.dev.line.defaultAction = .reject ∧ t.dev.line.lastHit = none ∧ t.dev.line.slot0 = none ∧ t.dev.line.slot1 = none ∧
        t.dev.line.attempt = none ∧ t.dev.line.lastEnd = none ∧ t.dev.line.failures = 0 ∧ t.dev.line.state = .up) ∧
      (t.dev.table.entries = [] ∧ t.dev.table.full = false) ∧
      (∀ dir, t.dev.button dir = { state := .released, chosen := none, lamp := .off, lit := false }) ∧
      (t.dev.fares.active = { id := none, dests := [], rules := none, state := .empty } ∧
        t.dev.fares.staged = t.dev.fares.active ∧ t.dev.fares.generation = 0) ∧
      (t.dev.sale.slotA = none ∧ t.dev.sale.slotB = none ∧ t.dev.sale.nextQuote = 1 ∧ t.dev.sale.lastSale = none ∧
        t.dev.sale.closedFlag = false ∧ t.dev.sale.state = .closed) ∧
      (t.dev.journal.partition = 48 ∧ t.dev.journal.records = [] ∧ t.dev.journal.nextSerial = none ∧
        t.dev.journal.highest = none ∧ t.dev.journal.anchor = 0) ∧
      (t.dev.notices.items = [] ∧ t.dev.notices.sn1 = true ∧ t.dev.notices.sn2 = false ∧ t.dev.notices.sn3 = true) ∧
      (t.dev.board.screens.length = 6 ∧
        (∀ x ∈ t.dev.board.screens, x.enabled = false ∧ x.groups = 0 ∧ x.health = .ok ∧ x.page.blank = true ∧ x.seq = 1) ∧
        t.dev.board.groups = [0, 0, 0, 0] ∧ t.dev.board.lists = [[], [], [], []] ∧ t.dev.board.finished = []) ∧
      t.dev.cues = [] ∧
      (t.dev.co.onDayBoundary = false ∧ t.dev.co.onLastCall = false ∧ t.dev.co.delay = 0 ∧ t.dev.co.skipSetting = 0 ∧
        t.dev.co.ttMode = .none ∧ t.dev.co.fareMode = .none ∧ t.dev.co.armed = false ∧ t.dev.co.skipCount = 0 ∧ t.dev.co.doneDate = none ∧ t.dev.co.unit = .disarmed ∧ t.dev.co.timer = none ∧
        t.dev.co.lastResult = none) ∧
      (t.dev.halt.ownPoint = 1 ∧ t.dev.halt.name = ascii "Halt" ∧ t.dev.halt.fareCode = 0 ∧ t.dev.halt.dwell = 30 ∧
        t.dev.halt.early = 120 ∧ t.dev.halt.reserve = 24 ∧ t.dev.halt.uploadMark = 256 ∧ t.dev.halt.enterUnlisted = false) ∧
      (∀ p, (t.dev.port p).mode = .responseReady ∧
        (t.dev.port p).buffer = some { cmd := 0, status := .ok, data := [1, c.code], segmented := false } ∧
        (t.dev.port p).assembly = none) ∧
      ((t.dev.port .sale).notify = 1 ∧ (t.dev.port .board).notify = 1 ∧ (t.dev.port .office).notify = 0) ∧
      ((t.dev.port .sale).mask = 7 ∧ (t.dev.port .board).mask = 3 ∧ (t.dev.port .office).mask = 31)) ∧
  ∀ s : State, s.dev.phase = .starting .power → s.dev.sched = 0 →
    exec (.startEnd false) s = .next { State.reset with pending := s.pending }

/-- A start that finds the check word valid is a warm start: what the chapters call stored is kept, a bank found LOADING
becomes BROKEN, the volatile state takes its start values, the notices are judged and each port holds its start response with
the flags of a start (R18, R20, R50, R53, R98, R113, R136, R146, R150, R151, R155, R162, R167, R168, R170, R187, R195, R198). -/
def Obligations.WarmStartKeepsStored : Prop :=
  ∀ (s : State) (c : StartCause), s.dev.phase = .starting c →
    ∃ t, exec (.startEnd true) s = .next t ∧ t.pending = s.pending ∧ t.dev.phase = .running ∧
      (t.dev.clock.date = s.dev.clock.date ∧ t.dev.clock.second = s.dev.clock.second ∧
        t.dev.clock.state = (if s.dev.clock.state = .unset then .unset else .free) ∧ t.dev.clock.candidate = none) ∧
      (t.dev.tt.active = s.dev.tt.active ∧
        t.dev.tt.staged = { s.dev.tt.staged with
          state := if s.dev.tt.staged.state = .loading then .broken else s.dev.tt.staged.state }) ∧
      (t.dev.fares.active = s.dev.fares.active ∧ t.dev.fares.generation = s.dev.fares.generation ∧
        t.dev.fares.staged = { s.dev.fares.staged with
          state := if s.dev.fares.staged.state = .loading then .broken else s.dev.fares.staged.state }) ∧
      (t.dev.line.filters = s.dev.line.filters ∧ t.dev.line.defaultAction = s.dev.line.defaultAction ∧
        t.dev.line.lastHit = none ∧ t.dev.line.slot0 = none ∧ t.dev.line.slot1 = none ∧ t.dev.line.attempt = none ∧
        t.dev.line.lastEnd = none ∧ t.dev.line.failures = 0 ∧ t.dev.line.state = .up) ∧
      (t.dev.table.entries = [] ∧ t.dev.table.full = false) ∧
      (∀ dir, t.dev.button dir = { state := .released, chosen := none, lamp := .off, lit := false }) ∧
      (t.dev.sale.slotA = none ∧ t.dev.sale.slotB = none ∧ t.dev.sale.nextQuote = 1 ∧ t.dev.sale.lastSale = none ∧
        t.dev.sale.closedFlag = s.dev.sale.closedFlag ∧ t.dev.SalesLawful) ∧
      t.dev.journal = s.dev.journal ∧
      (t.dev.notices.items.map (fun n => { n with inWindow := false }) =
          s.dev.notices.items.map (fun n => { n with inWindow := false }) ∧
        (∀ n ∈ t.dev.notices.items, n.inWindow = n.windowOpen { date := s.dev.clock.date, second := s.dev.clock.second }) ∧
        (t.dev.notices.sn1 = true ↔ t.dev.sale.state = .closed ∨ t.dev.sale.state = .suspended) ∧
        t.dev.notices.sn2 = false ∧ t.dev.notices.sn3 = true) ∧
      (t.dev.board.groups = s.dev.board.groups ∧
        t.dev.board.screens.map (fun x => (x.enabled, x.groups)) = s.dev.board.screens.map (fun x => (x.enabled, x.groups)) ∧
        (∀ x ∈ t.dev.board.screens, x.health = .ok ∧ x.seq = 1 ∧ x.page = t.dev.composePage x) ∧
        t.dev.board.lists = [0, 1, 2, 3].map t.dev.rebuilt ∧ t.dev.board.finished = []) ∧
      t.dev.cues = [] ∧
      t.dev.co = { s.dev.co with
        unit := if s.dev.co.armed then .armed else .disarmed, timer := none, lastResult := none } ∧
      t.dev.halt = s.dev.halt ∧
      (∀ p, (t.dev.port p).mode = .responseReady ∧
        (t.dev.port p).buffer = some { cmd := 0, status := .ok, data := [2, c.code], segmented := false } ∧
        (t.dev.port p).assembly = none ∧ (t.dev.port p).mask = (s.dev.port p).mask) ∧
      ((t.dev.port .sale).notify = 1 ∧ (t.dev.port .board).notify = 1 ∧
        (t.dev.port .office).notify =
          (if s.dev.tt.staged.state = .loading ∨ s.dev.fares.staged.state = .loading then 8 else 0)
            ||| (if s.dev.halt.uploadMark ≤ s.dev.journal.records.length then 1 else 0))

/-- A start begins at power-on, at the RESET input and at RESTART on the Office port, and the part stops at a loss of power:
every port becomes STARTING, with its response, its assembly and its notify set lost and its mask kept (R149, R195, R196).
What POWER_ON does with the power on and RESET_INPUT with it off, and that the due ticks are dropped, is the model's choice
(log 25, log 8). -/
def Obligations.StartsEmptyThePorts : Prop :=
  ∀ (s : State) (i : Instr) (ph : Phase),
    (i = .powerOn ∧ s.dev.phase = .off ∧ ph = .starting .power ∨
      i = .resetInput ∧ s.dev.phase ≠ .off ∧ ph = .starting .resetInput ∨
      i = .restart .office [] ∧ s.dev.takes .office ∧ ph = .starting .restart ∨
      i = .powerLoss ∧ ph = .off) →
    ∃ t, exec i s = .next t ∧ t.pending = s.pending ∧
      t.dev = { s.dev with
        phase := ph
        clock := { s.dev.clock with dueMinute := 0, dueSweep := 0, dueDay := 0 }
        ports := t.dev.ports } ∧
      ∀ p, (t.dev.port p).mode = .starting ∧ (t.dev.port p).inHand = none ∧ (t.dev.port p).buffer = none ∧
        (t.dev.port p).assembly = none ∧ (t.dev.port p).notify = 0 ∧ (t.dev.port p).mask = (s.dev.port p).mask ∧
        t.dev.readyLine p = false ∧ t.dev.notifyLine p = false

/-- While a start lasts, or without power, the part takes no frame, attempt end, tick, expiry, button or lamp event (R195); and a
command period that meets a port in STARTING, EXECUTING or RESPONSE_READY is discarded: nothing changes but the zero bytes
clocked out (R188). -/
def Obligations.InputsDiscardedWhenNotTaken : Prop :=
  (∀ (i : Instr) (s : State), isInput i = true → s.dev.phase ≠ .running → exec i s = .next s) ∧
  ((∀ (i : Instr) (c : PortCommand) (s : State), portCommand? i = some c → s.dev.phase ≠ .off →
    (s.dev.port c.port).mode ≠ .idle →
    exec i s = .next (s.withPort c.port
        { s.dev.port c.port with lastOut := List.replicate (c.params.length + 3) 0 })) ∧
  ∀ (p : PortId) (b : Byte) (bs : List Byte) (s : State), b ≠ 0 → s.dev.phase ≠ .off → (s.dev.port p).mode ≠ .idle →
    exec (.unknownCommand p (b :: bs)) s = .next (s.withPort p { s.dev.port p with lastOut := List.replicate (bs.length + 1) 0 }))

/-- The tests of a command period, answered at once with the CMD byte, or 0 where there is none, and nothing executed. For a row of
a known command: a LEN above 64 FRAME_ERROR, a port that may not send it NOT_PERMITTED, parameters of the wrong length
FRAME_ERROR. For a period given by its bytes: bad framing FRAME_ERROR whatever its CMD, a CMD that names no command
UNKNOWN_COMMAND. Three points are the model's: a row of more than 62 parameter bytes carries a LEN above 64 (log 3), a row of
UNKNOWN_COMMAND is any period given by its bytes (log 4), and the response to a failed test carries no segment byte, that of
READ_PAGE, READ_DEPARTURES and READ_STATUS included (log 17) (R189, R193, R194). -/
def Obligations.FailedTestsAnswerAtOnce : Prop :=
  (∀ (i : Instr) (c : PortCommand) (s : State), portCommand? i = some c → s.dev.takes c.port →
    (62 < c.params.length →
      exec i s = .next (s.ready c.port (c.params.length + 3)
        { cmd := c.cmd.code, status := .frameError, data := [], segmented := false })) ∧
    (c.params.length ≤ 62 → ¬ mayBeSent c.cmd.code.toNat c.port →
      exec i s = .next (s.ready c.port (c.params.length + 3)
        { cmd := c.cmd.code, status := .notPermitted, data := [], segmented := false })) ∧
    (c.params.length ≤ 62 → mayBeSent c.cmd.code.toNat c.port → c.cmd ≠ .putNotice → c.cmd.lengthOk c.params = false →
      exec i s = .next (s.ready c.port (c.params.length + 3)
        { cmd := c.cmd.code, status := .frameError, data := [], segmented := false }))) ∧
  (∀ (p : PortId) (len : Byte) (bs : List Byte) (s : State), len ≠ 0 → s.dev.takes p →
    ((len.toNat ≠ bs.length ∨ len.toNat < 2 ∨ 64 < len.toNat ∨ bs.getLast? ≠ some (crc8 (len :: bs).dropLast)) →
      exec (.unknownCommand p (len :: bs)) s =
        .next (s.ready p (bs.length + 1)
          { cmd := bs.headD 0, status := .frameError, data := [], segmented := false })) ∧
    (len.toNat = bs.length → 2 ≤ len.toNat → len.toNat ≤ 64 → bs.getLast? = some (crc8 (len :: bs).dropLast) →
      ((bs.headD 0).toNat = 0 ∨ 5 ≤ (bs.headD 0).toNat ∧ (bs.headD 0).toNat ≤ 7 ∨ (bs.headD 0).toNat = 11 ∨
        (bs.headD 0).toNat = 15 ∨ 42 ≤ (bs.headD 0).toNat) →
      exec (.unknownCommand p (len :: bs)) s =
        .next (s.ready p (bs.length + 1)
          { cmd := bs.headD 0, status := .unknownCommand, data := [], segmented := false })))

/-- The frame of a port command, as R203 lays it out with the code of R194 and the CHECK of R193, is the row of that command:
clocked in as bytes it does what the row does, for every row, port and parameters that a LEN can carry. That a period given by
the bytes of a known command runs as that command, and what a row of more parameters is, are the model's choices (log 4,
log 3). -/
def Obligations.FrameBytesRunTheRow : Prop :=
  ∀ (i : Instr) (c : PortCommand) (s : State), portCommand? i = some c → c.params.length ≤ 62 →
    exec (.unknownCommand c.port (commandFrame c.cmd c.params)) s = exec i s

/-- What a read period clocks out: a short frame of PENDING in IDLE and EXECUTING and of BUSY in STARTING; in RESPONSE_READY
the frame of the segment being read, which counts as read only when it is clocked out whole, and whose last segment read
empties the buffer and leaves the port IDLE. When the owning block has finished, the port places its response, becomes
RESPONSE_READY and raises READY; a port with no command in hand is left as it is (R188, R191). -/
def Obligations.ReadPeriodsAndResponses : Prop :=
  (∀ (p : PortId) (n : Nat) (s : State), 1 ≤ n → s.dev.phase ≠ .off →
    ((s.dev.port p).mode = .idle ∨ (s.dev.port p).mode = .executing →
      exec (.readPeriod p n) s = .next (s.withPort p { s.dev.port p with lastOut := ([1, 1] : List Byte).take n })) ∧
    ((s.dev.port p).mode = .starting →
      exec (.readPeriod p n) s = .next (s.withPort p { s.dev.port p with lastOut := ([1, 6] : List Byte).take n })) ∧
    ∀ (r : Response) (k : Nat), (s.dev.port p).mode = .responseReady → (s.dev.port p).buffer = some r →
      (s.dev.port p).segment = k →
      (n < (r.frame k).length →
        exec (.readPeriod p n) s = .next (s.withPort p { s.dev.port p with lastOut := (r.frame k).take n })) ∧
      ((r.frame k).length ≤ n → k + 1 < r.segments →
        exec (.readPeriod p n) s = .next (s.withPort p { s.dev.port p with segment := k + 1, lastOut := r.frame k })) ∧
      ((r.frame k).length ≤ n → r.segments ≤ k + 1 →
        exec (.readPeriod p n) s = .next (s.withPort p { s.dev.port p with mode := .idle, buffer := none, segment := 0, lastOut := r.frame k }))) ∧
  (∀ (p : PortId) (s : State),
    (∀ r, (s.dev.port p).mode = .executing → (s.dev.port p).inHand = some r →
      ∃ t, exec (.responsePlaced p) s = .next t ∧ t.dev.readyLine p = true ∧
        t = s.withPort p
          { s.dev.port p with mode := .responseReady, inHand := none, buffer := some r, segment := 0 }) ∧
    ((s.dev.port p).mode ≠ .executing → exec (.responsePlaced p) s = .next s))

/-- The frames of a segmented response: LEN counts the bytes after it, the first datum is the segment byte with the index and
the last flag, CHECK closes the frame, every segment but the last carries 250 bytes of data, and the segments together carry
all the data in order (R192, R193, R203). -/
def Obligations.SegmentsCarryAllData : Prop :=
  ∀ r : Response, r.segmented = true →
    (List.range r.segments).flatMap (fun k => ((r.frame k).drop 4).dropLast) = r.data ∧
    ∀ k, k < r.segments → ∃ body : List Byte,
      r.frame k = BitVec.ofNat 8 (body.length + 4) :: r.cmd :: r.status.code
        :: BitVec.ofNat 8 (k + if k + 1 = r.segments then 128 else 0) :: body ++ [crc8 (r.frame k).dropLast] ∧
      body.length ≤ 250 ∧ (k + 1 < r.segments → body.length = 250)

/-- READ_NOTIFY answers OK with the port's whole notify set and its mask, on the Sale port also the sales state, and clears
the set; on the Board port CUE_PENDING is set again while a cue remains, and on the Sale port a set that held
STOP_STATE_CHANGED clears the sale watch of every entry (R93, R199). SET_NOTIFY_MASK stores the mask for the sending
port, with bits of flags it does not have stored as clear, and answers OK with the mask before (R198). -/
def Obligations.NotifySetsReadAndMasked : Prop :=
  ((∀ s : State, s.dev.takes .office →
    exec (.readNotify .office []) s = .next (s.answered .office 3
      (Cmd.response .readNotify .ok [(s.dev.port .office).notify, (s.dev.port .office).mask])
      (s.dev.setPort .office { s.dev.port .office with notify := 0 }))) ∧
  (∀ s : State, s.dev.takes .board →
    exec (.readNotify .board []) s = .next (s.answered .board 3
      (Cmd.response .readNotify .ok [(s.dev.port .board).notify, (s.dev.port .board).mask])
      (s.dev.setPort .board { s.dev.port .board with notify := if s.dev.cues = [] then 0 else 2 }))) ∧
  ∀ (s : State) (d : Device), s.dev.takes .sale → d = s.dev.closeExpired →
    exec (.readNotify .sale []) s = .next (s.answered .sale 3
      (Cmd.response .readNotify .ok [(d.port .sale).notify, (d.port .sale).mask, BitVec.ofNat 8 d.sale.state.code])
      ((d.when ((d.port .sale).notify &&& 4 != 0) Device.clearWatches).setPort .sale
        { d.port .sale with notify := 0 }))) ∧
  (∀ (p : PortId) (m : Byte) (s : State) (d : Device), s.dev.takes p → d = s.dev.atCommand p →
    exec (.setNotifyMask p [m]) s = .next (s.answered p 4
      (Cmd.response .setNotifyMask .ok [(d.port p).mask])
      (d.setPort p { d.port p with mask := m &&& (match p with | .sale => 7 | .board => 3 | .office => 31) })))

/-! ## The banks and the change-over -/

/-- STAGE_BEGIN of either item: an id of 0 is answered BAD_PARAM, a unit in TIMING REFUSED with BUSY, and otherwise, whichever
state the STAGED bank is in, its contents are discarded and a load begins under the id given (R5, R114). -/
def Obligations.StageBeginStartsALoad : Prop :=
  ∀ (ps : List Byte) (s : State), s.dev.takes .office → ps.length = 2 →
    (u16At ps 0 = 0 →
      exec (.stageBeginTimetable .office ps) s =
          .next (s.answered .office 6 (Cmd.response .stageBegin .badParam []) s.dev) ∧
        exec (.stageBeginFares .office ps) s =
          .next (s.answered .office 6 (Cmd.response .stageBegin .badParam []) s.dev)) ∧
    (u16At ps 0 ≠ 0 → s.dev.co.unit = .timing →
      exec (.stageBeginTimetable .office ps) s =
          .next (s.answered .office 6 (Cmd.response .stageBegin .refused [20]) s.dev) ∧
        exec (.stageBeginFares .office ps) s =
          .next (s.answered .office 6 (Cmd.response .stageBegin .refused [20]) s.dev)) ∧
    (u16At ps 0 ≠ 0 → s.dev.co.unit ≠ .timing →
      exec (.stageBeginTimetable .office ps) s =
          .next (s.answered .office 6 (Cmd.response .stageBegin .ok []) { s.dev with tt := { s.dev.tt with
            staged := { id := some (u16At ps 0), names := [], calls := [], state := .loading } } }) ∧
        exec (.stageBeginFares .office ps) s =
          .next (s.answered .office 6 (Cmd.response .stageBegin .ok []) { s.dev with fares := { s.dev.fares with
            staged := { id := some (u16At ps 0), dests := [], rules := none, state := .loading } } }))

/-- STAGE_PUT_DEST: NOT_LOADING, BAD_PARAM for a bad name and FULL at 32 names, in that order; otherwise the name is stored at
the index equal to the destination count, which the response carries, in one byte by the model's choice (log 15) (R3). -/
def Obligations.StagePutDestStoresTheName : Prop :=
  ∀ (name : Text) (s : State), s.dev.takes .office → name.length ≤ 61 →
    (s.dev.tt.staged.state ≠ .loading →
      exec (.stagePutDest .office (beText name)) s =
        .next (s.answered .office (name.length + 4) (Cmd.response .stagePutDest .refused [18]) s.dev)) ∧
    (s.dev.tt.staged.state = .loading →
      (name = [] ∨ 24 < name.length ∨ (∃ c ∈ name, c.toNat < 32 ∨ 126 < c.toNat)) →
      exec (.stagePutDest .office (beText name)) s =
        .next (s.answered .office (name.length + 4) (Cmd.response .stagePutDest .badParam []) s.dev)) ∧
    (s.dev.tt.staged.state = .loading →
      1 ≤ name.length → name.length ≤ 24 → (∀ c ∈ name, 32 ≤ c.toNat ∧ c.toNat ≤ 126) →
      (32 ≤ s.dev.tt.staged.names.length →
        exec (.stagePutDest .office (beText name)) s =
          .next (s.answered .office (name.length + 4) (Cmd.response .stagePutDest .refused [17]) s.dev)) ∧
      (s.dev.tt.staged.names.length < 32 →
        exec (.stagePutDest .office (beText name)) s =
          .next (s.answered .office (name.length + 4)
            (Cmd.response .stagePutDest .ok [BitVec.ofNat 8 s.dev.tt.staged.names.length])
            { s.dev with tt := { s.dev.tt with
              staged := { s.dev.tt.staged with names := s.dev.tt.staged.names ++ [name] } } })))

/-- STAGE_PUT_CALL: a call that passes the field checks, with no route point at the halt's own point, in a LOADING bank of fewer
than 96 calls that holds no call of the same train on a shared weekday, is stored in its place in bank order, with all its
fields. Its four tests in their order: NOT_LOADING, BAD_PARAM with the number of the first check that fails, FULL at 96 calls,
and DUPLICATE with the stored call it met; nothing is stored. That the call met is the first in bank order, and the one byte of the
check number and of the count, are the model's choices (log 38, log 15) (R1, R2, R7, R8, R10, R203). -/
def Obligations.StagePutCallStoresOrRefuses : Prop :=
  (∀ (c : CallRec) (s : State), s.dev.takes .office → c.Valid → (∀ r ∈ c.route, r.point ≠ s.dev.halt.ownPoint) →
    s.dev.tt.staged.state = .loading → s.dev.tt.staged.calls.length < 96 →
    (∀ x ∈ s.dev.tt.staged.calls, x.train = c.train → x.days &&& c.days = 0) →
    ∃ before after : List CallRec, s.dev.tt.staged.calls = before ++ after ∧
      (∀ x ∈ before, ¬ (c.schedDep < x.schedDep ∨ c.schedDep = x.schedDep ∧ c.train < x.train)) ∧
      (∀ x, after.head? = some x → c.schedDep < x.schedDep ∨ c.schedDep = x.schedDep ∧ c.train < x.train) ∧
      exec (.stagePutCall .office c.params) s =
        .next (s.answered .office (19 + 7 * c.route.length)
          (Cmd.response .stagePutCall .ok [BitVec.ofNat 8 (s.dev.tt.staged.calls.length + 1)])
          { s.dev with tt := { s.dev.tt with
            staged := { s.dev.tt.staged with calls := before ++ c :: after } } })) ∧
  (∀ (ps : List Byte) (s : State), s.dev.takes .office → ps.length ≤ 62 → ps.length = 16 + 7 * byteAt ps 13 →
    (s.dev.tt.staged.state ≠ .loading →
      exec (.stagePutCall .office ps) s =
        .next (s.answered .office (ps.length + 3) (Cmd.response .stagePutCall .refused [18]) s.dev)) ∧
    (s.dev.tt.staged.state = .loading →
      (∀ k, FirstToFail (CallCheck s.dev.halt.ownPoint ps) 16 k →
        exec (.stagePutCall .office ps) s =
          .next (s.answered .office (ps.length + 3) (Cmd.response .stagePutCall .badParam [BitVec.ofNat 8 k]) s.dev)) ∧
      (AllPass (CallCheck s.dev.halt.ownPoint ps) 16 →
        (96 ≤ s.dev.tt.staged.calls.length →
          exec (.stagePutCall .office ps) s =
            .next (s.answered .office (ps.length + 3) (Cmd.response .stagePutCall .refused [17]) s.dev)) ∧
        ∀ (before after : List CallRec) (x : CallRec), s.dev.tt.staged.calls.length < 96 →
          s.dev.tt.staged.calls = before ++ x :: after →
          x.train = u16At ps 0 → x.days &&& BitVec.ofNat 7 (byteAt ps 5) ≠ 0 →
          (∀ y ∈ before, y.train = x.train → y.days &&& BitVec.ofNat 7 (byteAt ps 5) = 0) →
          exec (.stagePutCall .office ps) s =
            .next (s.answered .office (ps.length + 3)
              (Cmd.response .stagePutCall .refused (16 :: be16 x.train ++ [BitVec.ofNat 8 x.days.toNat])) s.dev))))

/-- STAGE_CLOSE: a timetable bank is READY when the count agrees and every stored call has a name, a fare bank when the count
agrees and it has rules, and BROKEN otherwise, with the data of R11 and R117 and STAGE_RESULT set; refused NOT_LOADING, or
BAD_PARAM for a count above 96 or 40, with nothing changed; the one byte of each count in the data is the model's choice (log 15)
(R11, R12, R117). -/
def Obligations.StageCloseJudgesTheBank : Prop :=
  (∀ (n : Byte) (s : State) (b : TimetableBank), s.dev.takes .office → b = s.dev.tt.staged →
    (b.state ≠ .loading →
      exec (.stageCloseTimetable .office [n]) s =
        .next (s.answered .office 5 (Cmd.response .stageClose .refused [18]) s.dev)) ∧
    (b.state = .loading → 96 < n.toNat →
      exec (.stageCloseTimetable .office [n]) s =
        .next (s.answered .office 5 (Cmd.response .stageClose .badParam []) s.dev)) ∧
    (b.state = .loading → n.toNat ≤ 96 →
      exec (.stageCloseTimetable .office [n]) s =
        .next (s.answered .office 5
          (Cmd.response .stageClose .ok
            ([if n.toNat = b.calls.length ∧ ∀ c ∈ b.calls, c.dest < b.names.length then 3 else 4,
              BitVec.ofNat 8 b.calls.length, BitVec.ofNat 8 b.names.length,
              if n.toNat = b.calls.length then 0 else 1, if ∀ c ∈ b.calls, c.dest < b.names.length then 0 else 1]
              ++ be16 (((b.calls.find? (fun c => decide (b.names.length ≤ c.dest))).map CallRec.train).getD 0)))
          (Device.setFlag .stageResult { s.dev with tt := { s.dev.tt with
            staged := { b with
              state := if n.toNat = b.calls.length ∧ ∀ c ∈ b.calls, c.dest < b.names.length then .ready else .broken } } })))) ∧
  (∀ (n : Byte) (s : State) (b : FareBank), s.dev.takes .office → b = s.dev.fares.staged →
    (b.state ≠ .loading →
      exec (.stageCloseFares .office [n]) s =
        .next (s.answered .office 5 (Cmd.response .stageClose .refused [18]) s.dev)) ∧
    (b.state = .loading → 40 < n.toNat →
      exec (.stageCloseFares .office [n]) s =
        .next (s.answered .office 5 (Cmd.response .stageClose .badParam []) s.dev)) ∧
    (b.state = .loading → n.toNat ≤ 40 →
      exec (.stageCloseFares .office [n]) s =
        .next (s.answered .office 5
          (Cmd.response .stageClose .ok
            [if n.toNat = b.dests.length ∧ b.rules ≠ none then 3 else 4, BitVec.ofNat 8 b.dests.length,
              if n.toNat = b.dests.length then 0 else 1, if b.rules = none then 1 else 0])
          (Device.setFlag .stageResult { s.dev with fares := { s.dev.fares with
            staged := { b with
              state := if n.toNat = b.dests.length ∧ b.rules ≠ none then .ready else .broken } } }))))

/-- STAGE_PUT_FARE: NOT_LOADING, BAD_PARAM with the number of the first check that fails, DUPLICATE with the code and FULL at
40 records, in that order; a record that passes is stored in its place in code order, with all its fields. The one byte of
the check number and of the count is the model's choice (log 15) (R115, R203). -/
def Obligations.StagePutFareStoresTheRecord : Prop :=
  ∀ (x : FareDest) (s : State) (b : FareBank), s.dev.takes .office → b = s.dev.fares.staged →
    x.code < 65536 → x.base < 65536 → x.validity < 256 → x.name.length ≤ 56 →
    (b.state ≠ .loading →
      exec (.stagePutFare .office x.params) s =
        .next (s.answered .office (x.name.length + 9) (Cmd.response .stagePutFare .refused [18]) s.dev)) ∧
    (b.state = .loading → ∀ k, FirstToFail (FareCheck x) 4 k →
      exec (.stagePutFare .office x.params) s =
        .next (s.answered .office (x.name.length + 9) (Cmd.response .stagePutFare .badParam [BitVec.ofNat 8 k]) s.dev)) ∧
    (b.state = .loading → x.Valid →
      ((∃ y ∈ b.dests, y.code = x.code) →
        exec (.stagePutFare .office x.params) s =
          .next (s.answered .office (x.name.length + 9) (Cmd.response .stagePutFare .refused (16 :: be16 x.code)) s.dev)) ∧
      ((∀ y ∈ b.dests, y.code ≠ x.code) →
        (40 ≤ b.dests.length →
          exec (.stagePutFare .office x.params) s =
            .next (s.answered .office (x.name.length + 9) (Cmd.response .stagePutFare .refused [17]) s.dev)) ∧
        (b.dests.length < 40 → ∃ before after : List FareDest, b.dests = before ++ after ∧
          (∀ y ∈ before, y.code < x.code) ∧ (∀ y, after.head? = some y → x.code < y.code) ∧
          exec (.stagePutFare .office x.params) s =
            .next (s.answered .office (x.name.length + 9)
              (Cmd.response .stagePutFare .ok [BitVec.ofNat 8 (b.dests.length + 1)])
              { s.dev with fares := { s.dev.fares with staged := { b with dests := before ++ x :: after } } }))))

/-- STAGE_PUT_RULES: rules that pass the eight checks replace any the LOADING bank holds, with all their fields; NOT_LOADING,
or BAD_PARAM with the number of the first check that fails, changes nothing. The one byte of that number is the model's choice
(log 15) (R112, R116, R203). -/
def Obligations.StagePutRulesReplacesTheRules : Prop :=
  (∀ (r : FareRules) (s : State), s.dev.takes .office → r.Valid → s.dev.fares.staged.state = .loading →
    exec (.stagePutRules .office r.params) s =
      .next (s.answered .office (26 + 7 * r.windows.length) (Cmd.response .stagePutRules .ok [])
        { s.dev with fares := { s.dev.fares with staged := { s.dev.fares.staged with rules := some r } } })) ∧
  ∀ (ps : List Byte) (s : State), s.dev.takes .office → ps.length ≤ 62 → ps.length = 23 + 7 * byteAt ps 22 →
    (s.dev.fares.staged.state ≠ .loading →
      exec (.stagePutRules .office ps) s =
        .next (s.answered .office (ps.length + 3) (Cmd.response .stagePutRules .refused [18]) s.dev)) ∧
    ∀ k, s.dev.fares.staged.state = .loading → FirstToFail (RulesCheck ps) 8 k →
      exec (.stagePutRules .office ps) s =
        .next (s.answered .office (ps.length + 3) (Cmd.response .stagePutRules .badParam [BitVec.ofNat 8 k]) s.dev)

/-- Both timetable banks and both fare banks keep their laws through every step: their bounds and orders, no two calls of one
train on one weekday, the field checks of every record, a name for every call and rules in a READY bank, and an ACTIVE bank
that is READY or EMPTY (R1, R4, R8, R10, R11, R111 to R113, R117). -/
def Obligations.BanksStayLawful : Prop :=
  ∀ s t : State, s.dev.tt.Lawful → s.dev.fares.Lawful → step s = .next t → t.dev.tt.Lawful ∧ t.dev.fares.Lawful

/-- CHANGEOVER_SET: all five settings and the skip count are taken, the unit is DISARMED when the trigger set is empty and no
mode is SWAP and ARMED otherwise, with the test of R178 made at once, whose outcome the unit state in the response shows, which is
the model's choice (log 47); BAD_PARAM, or REFUSED with BUSY in TIMING, changes nothing (R176, R178). -/
def Obligations.ChangeoverSetTakesTheSettings : Prop :=
  ∀ (ps : List Byte) (s : State), s.dev.takes .office → ps.length = 6 →
    ((3 < byteAt ps 0 ∨ 3600 < u16At ps 1 ∨ 15 < byteAt ps 3 ∨ byteAt ps 4 = 0 ∨ 3 < byteAt ps 4 ∨ byteAt ps 5 = 0 ∨
        3 < byteAt ps 5) →
      exec (.changeoverSet .office ps) s =
        .next (s.answered .office 9 (Cmd.response .changeoverSet .badParam []) s.dev)) ∧
    ∀ tm fm : ApplyMode, byteAt ps 0 ≤ 3 → u16At ps 1 ≤ 3600 → byteAt ps 3 ≤ 15 → byteAt ps 4 = tm.code →
      byteAt ps 5 = fm.code →
      (s.dev.co.unit = .timing →
        exec (.changeoverSet .office ps) s =
          .next (s.answered .office 9 (Cmd.response .changeoverSet .refused [20]) s.dev)) ∧
      ∀ c : Changeover, s.dev.co.unit ≠ .timing →
        c = { s.dev.co with
          onDayBoundary := decide (byteAt ps 0 % 2 = 1), onLastCall := decide (2 ≤ byteAt ps 0)
          delay := u16At ps 1, skipSetting := byteAt ps 3, skipCount := byteAt ps 3, ttMode := tm, fareMode := fm
          armed := decide (byteAt ps 0 ≠ 0 ∨ tm = .swap ∨ fm = .swap)
          unit := if byteAt ps 0 = 0 ∧ tm ≠ .swap ∧ fm ≠ .swap then .disarmed else .armed } →
        (¬ s.dev.LastCallDue c →
          exec (.changeoverSet .office ps) s =
            .next (s.answered .office 9
              (Cmd.response .changeoverSet .ok [BitVec.ofNat 8 c.unit.code, BitVec.ofNat 8 (byteAt ps 3)])
              { s.dev with co := c })) ∧
        (s.dev.LastCallDue c →
          exec (.changeoverSet .office ps) s =
            .next (s.answered .office 9
              (Cmd.response .changeoverSet .ok [3, BitVec.ofNat 8 (byteAt ps 3)])
              { s.dev with co := c.lastCallRaised s.dev.clock.date }))

/-- APPLY_NOW in ARMED or TIMING runs an apply of cause APPLY_NOW, whatever the skip count, and answers OK with the last result
it set; in DISARMED it is answered REFUSED with NOT_ARMED. An apply leaves all that it does not name, the groups and the
finished set among it, and recomposes the pages where the timetable came into use or SN1 moved (R13, R118, R162, R182 to
R185). -/
def Obligations.ApplyNowAppliesAtOnce : Prop :=
  ∀ s : State, s.dev.takes .office →
    (s.dev.co.unit = .disarmed →
      exec (.applyNow .office []) s = .next (s.answered .office 3 (Cmd.response .applyNow .refused [21]) s.dev)) ∧
    (s.dev.co.unit ≠ .disarmed →
      ∃ t, exec (.applyNow .office []) s = .next t ∧ Applied .applyNow s.dev t.dev ∧
        s.Answered .office 3 (Cmd.response .applyNow .ok (resultData (s.dev.coApplied .applyNow).lastResult)) t)

/-- The delay expiry: with a skip left it spends one, nothing is applied and the unit is ARMED again, with the test of R178;
with none left an apply of the timer's cause runs, which keeps the groups and the finished set and recomposes the pages where
the timetable came into use or SN1 moved. Before the timer has reached the delay nothing happens
(R13, R118, R178, R180, R181, R183 to R185). -/
def Obligations.DelayExpirySkipsOrApplies : Prop :=
  ∀ (s : State) (k : DelayTimer), s.dev.phase = .running → s.dev.co.unit = .timing → s.dev.co.timer = some k →
    (k.elapsed < s.dev.co.delay → exec .delayExpiry s = .next s) ∧
    (s.dev.co.delay ≤ k.elapsed → s.dev.co.skipCount = 0 →
      ∃ t, exec .delayExpiry s = .next t ∧ s.Quiet t ∧ Applied k.cause s.dev t.dev) ∧
    ∀ c : Changeover, s.dev.co.delay ≤ k.elapsed → 0 < s.dev.co.skipCount →
      c = { s.dev.co with
        unit := .armed, timer := none, skipCount := s.dev.co.skipCount - 1
        lastResult := some
          { cause := k.cause, date := s.dev.clock.date, second := s.dev.clock.second, outcome := .skipped
            skipAfter := s.dev.co.skipCount - 1, unitAfter := .armed } } →
      (¬ s.dev.LastCallDue c → exec .delayExpiry s = .next { s with dev := { s.dev with co := c } }) ∧
      (s.dev.LastCallDue c →
        exec .delayExpiry s = .next { s with dev := { s.dev with co := c.lastCallRaised s.dev.clock.date } })

/-- A due day boundary: the finished set is cleared, every list rebuilt and every page recomposed, and the DAY_BOUNDARY trigger
starts the delay of an ARMED unit that has it in its set. Where that delay is 0, its expiry, the apply with it, may come before
the rebuild: R177 leaves that order open, and the model's choice takes it from a free value (log 45). A row with no boundary due
does nothing, which is the model's choice too (log 8) (R22, R155, R156, R162, R177, R179 to R181). -/
def Obligations.DayBoundaryRebuildsAndTriggers : Prop :=
  ∀ s : State, s.dev.phase = .running →
    (∀ (n : Nat) (d : Device), s.dev.clock.dueDay = n + 1 →
      d = { s.dev with
        clock := { s.dev.clock with dueDay := n }
        co := if s.dev.co.unit = .armed ∧ s.dev.co.onDayBoundary = true then
            { s.dev.co with unit := .timing, timer := some { cause := .dayBoundary, elapsed := 0 } }
          else s.dev.co } →
      ∃ t m, exec .dayBoundary s = .next t ∧ s.Quiet t ∧
        (m = d ∨ (s.dev.co.unit = .armed ∧ s.dev.co.onDayBoundary = true ∧ s.dev.co.delay = 0 ∧
          ∃ k, DelayExpired .dayBoundary { d with sched := k } m)) ∧
        t.dev = { m with board := t.dev.board, ports := t.dev.ports, sched := t.dev.sched } ∧
        t.dev.board.finished = [] ∧ t.dev.board.groups = s.dev.board.groups ∧
        t.dev.board.lists = [0, 1, 2, 3].map t.dev.rebuilt ∧ PagesFollow s.dev t.dev) ∧
    (s.dev.clock.dueDay = 0 → exec .dayBoundary s = .next s)

/-! ## Sales and the journal -/

/-- The departure lookup, by the rows of R119's table: a train with an entry is judged by its entry, whatever its date, and
one without by the finished set and then by today's day list. -/
def Obligations.DepartureLookupFollowsTheTable : Prop :=
  ∀ (d : Device) (t : Nat),
    (∀ e, d.entry? t = some e →
      (e.held = none → d.departure t = .notFound) ∧
      ∀ h, e.held = some h →
        (e.state = .departed ∨ e.state = .passed → d.departure t = .gone) ∧
        (e.state = .cancelled → d.departure t = .cancelled e h.call) ∧
        (e.state = .expected ∨ e.state = .running ∨ e.state = .approaching ∨ e.state = .atHalt →
          d.departure t = .found (some e) h.call)) ∧
    (d.entry? t = none →
      (t ∈ d.board.finished → d.departure t = .gone) ∧
      (t ∉ d.board.finished →
        (∀ h, d.tt.lookup d.clock.date t = some h →
          (d.clock.second ≤ h.call.schedDep + 7200 → d.departure t = .found none h.call) ∧
          (h.call.schedDep + 7200 < d.clock.second → d.departure t = .gone)) ∧
        (d.tt.lookup d.clock.date t = none → d.departure t = .notFound)))

/-- QUOTE's parameter ranges and its refusals in the order of R123's table; nothing changes but the expiry test made before.
A bank without rules counts as NOT_SOLD, which is the model's choice (log 37), and BAD_PARAM carries the sales state, which is
read from R135 (log 18) (R122, R123, R135). -/
def Obligations.QuoteRefusalsInOrder : Prop :=
  ∀ (ps : List Byte) (s : State) (d : Device), s.dev.takes .sale → ps.length = 7 → d = s.dev.closeExpired →
    ((u16At ps 0 = 0 ∨ 999 < u16At ps 0 ∨ byteAt ps 2 = 0 ∨ 3 < byteAt ps 2 ∨ byteAt ps 3 = 0 ∨ 3 < byteAt ps 3 ∨
        byteAt ps 4 = 0 ∨ 9 < byteAt ps 4 ∨ 9999 < u16At ps 5) →
      exec (.quote .sale ps) s =
        .next (s.answered .sale 10 (Cmd.response .quote .badParam [BitVec.ofNat 8 d.sale.state.code]) d)) ∧
    ∀ (ty : TicketType) (cl : TicketClass) (ref : Option Departure) (x : Option FareDest) (reason : Byte),
      1 ≤ u16At ps 0 → u16At ps 0 ≤ 999 → byteAt ps 2 = ty.code → byteAt ps 3 = cl.code →
      1 ≤ byteAt ps 4 → byteAt ps 4 ≤ 9 → u16At ps 5 ≤ 9999 →
      ref = d.reference (if u16At ps 5 = 0 then none else some (u16At ps 5)) →
      x = d.fares.active.dests.find? (fun y => y.code == u16At ps 0) →
      firstOf
        [ (1, d.sale.state == .closed || d.sale.state == .suspended)
        , (2, d.sale.state == .restricted && ty != .single)
        , (3, (x.map FareDest.base).getD 0 == 0 || d.fares.active.rules == none)
        , (4, d.fares.active.rules.any (fun r => r.classFactor cl == 0))
        , (5, ref.any Departure.missing)
        , (6, ref.any Departure.isCancelled)
        , (7, ref.any (Departure.foundWith (fun e c =>
            c.kind == .request && e.any (fun y => !belowCutoff y.lastIndex c && y.stop != .confirmed))))
        , (8, ref.any (Departure.foundWith (fun _ c => c.kind == .pass)))
        , (3, d.fares.active.rules.any (fun r => x.any (fun y =>
            decide (999990 < d.fareOf r y ty cl ref * byteAt ps 4)))) ] = some reason →
      exec (.quote .sale ps) s =
        .next (s.answered .sale 10 (Cmd.response .quote .refused [BitVec.ofNat 8 d.sale.state.code, reason]) d)

/-- A QUOTE that no refusal meets is priced by R120 to R122 and opened under the next quote number in an empty slot, or in the
slot of the quote opened first, and the response carries the number, p, the discount, the price, the band, the generation, the
clock time of the expiry, the request-stop flag and REPLACED. The 3 bytes of that clock time (log 15) and the number 0 beside a
clear REPLACED (log 36) are the model's choices (R120 to R124). -/
def Obligations.QuoteOpensAPricedQuote : Prop :=
  ∀ (ps : List Byte) (s : State) (d : Device) (ty : TicketType) (cl : TicketClass) (ref : Option Departure) (x : FareDest)
    (r : FareRules) (n p off : Nat) (band : Band) (req : Bool),
    s.dev.takes .sale → ps.length = 7 → d = s.dev.closeExpired →
    1 ≤ u16At ps 0 → u16At ps 0 ≤ 999 → byteAt ps 2 = ty.code → byteAt ps 3 = cl.code →
    n = byteAt ps 4 → 1 ≤ n → n ≤ 9 → u16At ps 5 ≤ 9999 →
    (d.sale.state = .isOpen ∨ d.sale.state = .restricted ∧ ty = .single) →
    d.fares.active.dests.find? (fun y => y.code == u16At ps 0) = some x → d.fares.active.rules = some r →
    x.base ≠ 0 → r.classFactor cl ≠ 0 →
    ref = d.reference (if u16At ps 5 = 0 then none else some (u16At ps 5)) →
    (ref = none ∧ req = false ∨ ∃ e c, ref = some (.found e c) ∧ c.kind ≠ .pass ∧ (req = true ↔ c.kind = .request) ∧
      (c.kind = .request → ∀ y, e = some y → belowCutoff y.lastIndex c = true ∨ y.stop = .confirmed)) →
    p = d.fareOf r x ty cl ref → p * n ≤ 999990 →
    off = groupDiscountOf r.groupThreshold r.groupDiscount (p * n) n →
    band = r.bandAt (d.clock.date.toNat % 7) (d.bandSecond ref) →
    ∃ (t : State) (q : Quote) (gone : Option Nat), exec (.quote .sale ps) s = .next t ∧ t.pending = s.pending ∧
      q = { number := d.sale.nextQuote, destCode := u16At ps 0, destName := x.name, type := ty, cls := cl, count := n,
            train := if u16At ps 5 = 0 then none else some (u16At ps 5), generation := d.fares.generation, band := band,
            price := p * n - off, date := d.clock.date, expiry := d.clock.second + 120, requestStop := req,
            later := q.later } ∧
      t.dev = { d with sale := t.dev.sale, ports := t.dev.ports } ∧
      t.dev.sale = { d.sale with slotA := t.dev.sale.slotA, slotB := t.dev.sale.slotB,
                                 nextQuote := if 255 ≤ d.sale.nextQuote then 1 else d.sale.nextQuote + 1 } ∧
      t.dev.ports = d.answeredPorts .sale 10 (Cmd.response .quote .ok
        ([BitVec.ofNat 8 d.sale.state.code, BitVec.ofNat 8 q.number] ++ be24 p ++ be24 off ++ be24 (p * n - off)
          ++ [BitVec.ofNat 8 band.code, d.fares.generation] ++ be24 ((d.clock.second + 120 + 10800) % 86400)
          ++ [if req then 1 else 0, if gone = none then 0 else 1, BitVec.ofNat 8 (gone.getD 0)])) ∧
      (d.sale.slotA = none → gone = none ∧ t.dev.sale.slotA = some q ∧ q.later = d.sale.slotB.isSome ∧
        t.dev.sale.slotB = d.sale.slotB.map (fun y => { y with later := false })) ∧
      (d.sale.slotA ≠ none → d.sale.slotB = none → gone = none ∧ t.dev.sale.slotB = some q ∧ q.later = true ∧
        t.dev.sale.slotA = d.sale.slotA.map (fun y => { y with later := false })) ∧
      ∀ a b, d.sale.slotA = some a → d.sale.slotB = some b → q.later = true ∧
        (a.later = false → gone = some a.number ∧ t.dev.sale.slotA = some q ∧
          t.dev.sale.slotB = some { b with later := false }) ∧
        (a.later = true → gone = some b.number ∧ t.dev.sale.slotB = some q ∧
          t.dev.sale.slotA = some { a with later := false })

/-- CANCEL_QUOTE closes the open quote of the number given; a number of 0 is BAD_PARAM and a number no slot holds is
QUOTE_UNKNOWN, a quote just closed by the expiry test included. BAD_PARAM carries the sales state, which is read from R135
(log 18) (R125, R126). -/
def Obligations.CancelQuoteClosesTheQuote : Prop :=
  ∀ (n : Byte) (s : State) (d : Device), s.dev.takes .sale → d = s.dev.closeExpired →
    (n = 0 → exec (.cancelQuote .sale [n]) s =
      .next (s.answered .sale 4 (Cmd.response .cancelQuote .badParam [BitVec.ofNat 8 d.sale.state.code]) d)) ∧
    (n ≠ 0 → slotNumbered n.toNat d.sale.slotA → ¬ slotNumbered n.toNat d.sale.slotB → exec (.cancelQuote .sale [n]) s =
      .next (s.answered .sale 4 (Cmd.response .cancelQuote .ok [BitVec.ofNat 8 d.sale.state.code])
        { d with sale := { d.sale with slotA := none } })) ∧
    (n ≠ 0 → ¬ slotNumbered n.toNat d.sale.slotA → slotNumbered n.toNat d.sale.slotB → exec (.cancelQuote .sale [n]) s =
      .next (s.answered .sale 4 (Cmd.response .cancelQuote .ok [BitVec.ofNat 8 d.sale.state.code])
        { d with sale := { d.sale with slotB := none } })) ∧
    (n ≠ 0 → ¬ slotNumbered n.toNat d.sale.slotA → ¬ slotNumbered n.toNat d.sale.slotB → exec (.cancelQuote .sale [n]) s =
      .next (s.answered .sale 4 (Cmd.response .cancelQuote .refused [BitVec.ofNat 8 d.sale.state.code, 9]) d))

/-- The refusals of ISSUE after the expiry test, in the order of R127 and R128, with what each answers and whether it closes
the quote; a refused ISSUE leaves all else as it was but for what check 11 sets when it finds the table full. BAD_PARAM carries
the sales state, which is read from R135 (log 18), and of two slots of one number slot A is taken, the model's choice (log 26)
(R56, R127, R128, R192). -/
def Obligations.IssueRefusalsInOrder : Prop :=
  ∀ (ps : List Byte) (s : State) (d : Device), s.dev.takes .sale → ps.length = 5 → d = s.dev.closeExpired →
    (byteAt ps 0 = 0 ∨ 999990 < u24At ps 1 ∨ byteAt ps 4 = 0 ∨ 2 < byteAt ps 4 →
      exec (.issue .sale ps) s =
        .next (s.answered .sale 8 (Cmd.response .issue .badParam [BitVec.ofNat 8 d.sale.state.code]) d)) ∧
    (1 ≤ byteAt ps 0 → u24At ps 1 ≤ 999990 → 1 ≤ byteAt ps 4 → byteAt ps 4 ≤ 2 →
      (¬ slotNumbered (byteAt ps 0) d.sale.slotA → ¬ slotNumbered (byteAt ps 0) d.sale.slotB →
        exec (.issue .sale ps) s =
          .next (s.answered .sale 8 (Cmd.response .issue .refused [BitVec.ofNat 8 d.sale.state.code, 9]) d)) ∧
      ∀ (q : Quote) (ref : Option Departure) (closed : SaleUnit) (checks : List ((Byte × List Byte × Bool) × Bool)),
        q.number = byteAt ps 0 → ref = d.reference q.train →
        (d.sale.slotA = some q ∧ closed = { d.sale with slotA := none } ∨
          d.sale.slotB = some q ∧ closed = { d.sale with slotB := none } ∧ ¬ slotNumbered (byteAt ps 0) d.sale.slotA) →
        checks =
          [ ((10, [d.fares.generation], true), q.generation != d.fares.generation)
          , ((11, be24 q.price, false), u24At ps 1 != q.price)
          , ((1, [], false), d.sale.state == .closed || d.sale.state == .suspended)
          , ((2, [], false), d.sale.state == .restricted && q.type != .single)
          , ((1, [], false), decide (8 * d.journal.partition - d.journal.records.length < 2))
          , ((12, [], true), ref.any Departure.missing || ref.any (Departure.foundWith (fun _ c => c.kind == .pass)))
          , ((6, [], true), ref.any Departure.isCancelled)
          , ((7, [], true), ref.any (Departure.foundWith (fun e c =>
              c.kind == .request && e.any (fun y => !belowCutoff y.lastIndex c && y.stop != .confirmed))))
          , ((13, [], true), ref.any (Departure.foundWith (fun e c =>
              c.kind == .request && d.line.state == .down && !e.any (fun y => y.stop == .confirmed)))) ] →
        (∀ (reason : Byte) (datum : List Byte) (closes : Bool), firstOf checks = some (reason, datum, closes) →
          exec (.issue .sale ps) s =
            .next (s.answered .sale 8
              (Cmd.response .issue .refused (BitVec.ofNat 8 d.sale.state.code :: reason :: datum))
              { d with sale := if closes then closed else d.sale })) ∧
        ∀ (t : Nat) (c : CallRec), firstOf checks = none → q.train = some t → ref = some (.found none c) →
          c.kind = .request → d.table.entries.length = 24 →
          (∀ e ∈ d.table.entries, e.state ≠ .departed ∧ e.state ≠ .passed ∧ e.state ≠ .cancelled) →
          exec (.issue .sale ps) s =
            .next (s.answered .sale 8 (Cmd.response .issue .refused [BitVec.ofNat 8 d.sale.state.code, 14])
              (Device.setFlagIf (!d.table.full) .tableFull { d with table := { d.table with full := true } })))

/-- An ISSUE that every check of R127 and R128 passes appends one SALE record with the quote's fields, price and generation
under the next serial, chained to the newest record or the anchor, closes the quote, sets the last-sale record, has the sales
state evaluated and answers with the ticket; for the train of a REQUEST call the request takes n passengers and a sale watch,
and NONE becomes PENDING; a train without an entry is entered, on a full table in place of the entry that makes way, and the departure
lists follow. Of two slots of the number slot A is taken, and a RETURN to a destination that the bank no longer holds is valid for
the day, the model's choices (log 26, log 37) (R56, R92, R94, R129, R130, R132, R141, R142, R144, R158). -/
def Obligations.IssueSellsTheTicket : Prop :=
  ∀ (ps : List Byte) (s : State) (d : Device) (q : Quote) (call : Option CallRec) (pay : PayKind) (serial : Nat),
    s.dev.takes .sale → ps.length = 5 → d = s.dev.closeExpired →
    1 ≤ byteAt ps 0 → byteAt ps 4 = pay.code → u24At ps 1 = q.price → q.price ≤ 999990 → q.number = byteAt ps 0 →
    (d.sale.slotA = some q ∨ d.sale.slotB = some q ∧ ¬ slotNumbered (byteAt ps 0) d.sale.slotA) →
    q.generation = d.fares.generation →
    (d.sale.state = .isOpen ∨ d.sale.state = .restricted ∧ q.type = .single) →
    d.journal.records.length + 2 ≤ 8 * d.journal.partition →
    d.journal.nextSerial = some serial → serial ≤ 16777214 →
    (q.train = none ∧ call = none ∨ ∃ t e c, q.train = some t ∧ call = some c ∧ d.departure t = .found e c ∧ c.kind ≠ .pass ∧
      (c.kind = .request →
        (∀ y, e = some y → belowCutoff y.lastIndex c = true ∨ y.stop = .confirmed) ∧
        (d.line.state = .up ∨ ∃ y, e = some y ∧ y.stop = .confirmed) ∧
        (e = none → d.table.entries.length < 24 ∨ ∃ v, d.MakesWay t v))) →
    ∃ (t : State) (r : JournalRec), exec (.issue .sale ps) s = .next t ∧
      s.Answered .sale 8 (Cmd.response .issue .ok
        (BitVec.ofNat 8 t.dev.sale.state.code :: be24 serial ++ be16 d.clock.date.toNat ++ be24 d.clock.second
          ++ be16 d.halt.fareCode ++ be16 q.destCode ++ [BitVec.ofNat 8 q.type.code, BitVec.ofNat 8 q.cls.code,
            BitVec.ofNat 8 q.count]
          ++ be24 q.price
          ++ be16 (if q.type = .returnT then
              d.clock.date + BitVec.ofNat 16
                (((d.fares.active.dests.find? (fun y => y.code == q.destCode)).map FareDest.validity).getD 0)
            else d.clock.date).toNat
          ++ be16 (q.train.getD 0) ++ be24? (call.map CallRec.schedDep) ++ [q.generation] ++ beText q.destName)) t ∧
      r = { serial := serial, date := d.clock.date, second := d.clock.second,
            body := .sale { destCode := q.destCode, type := q.type, cls := q.cls, count := q.count, price := q.price,
                            pay := pay, train := q.train, generation := d.fares.generation },
            chain := crc16 ((d.journal.records.getLast?.map JournalRec.chain).getD d.journal.anchor)
              (recordBytes serial d.clock.date d.clock.second r.body) } ∧
      t.dev.journal = { d.journal with
        records := d.journal.records ++ [r], nextSerial := some (serial + 1), highest := some serial } ∧
      t.dev.sale = { d.sale with
        slotA := if d.sale.slotA = some q then none else d.sale.slotA
        slotB := if d.sale.slotA = some q then d.sale.slotB else none
        state := t.dev.sale.state
        lastSale := some { serial := serial, date := d.clock.date, second := d.clock.second, price := q.price, pay := pay,
                           train := if call.any (fun c => c.kind == .request) then q.train else none, count := q.count,
                           voided := false } } ∧
      t.dev.SalesLawful ∧
      t.dev = { d with sale := t.dev.sale, journal := t.dev.journal, notices := { d.notices with sn1 := t.dev.notices.sn1 },
                       board := t.dev.board, ports := t.dev.ports, table := t.dev.table, sru := t.dev.sru,
                       line := t.dev.line, cues := t.dev.cues, co := t.dev.co, sched := t.dev.sched } ∧
      (call.any (fun c => c.kind == .request) = false →
        t.dev.table = d.table ∧ t.dev.sru = d.sru ∧ t.dev.line = d.line ∧ t.dev.cues = d.cues ∧ t.dev.co = d.co ∧
          t.dev.board = { d.board with screens := t.dev.board.screens }) ∧
      ∀ n, call.any (fun c => c.kind == .request) = true → q.train = some n →
        d.OthersStay t.dev n ∧ ∃ e, t.dev.entry? n = some e ∧ e.saleWatch = true ∧
          e.waiting = min 15 (((d.entry? n).map Entry.waiting).getD 0 + q.count) ∧
          e.stop = (let before := ((d.entry? n).map Entry.stop).getD .none
            if before = .none then .pending else before) ∧
          (d.BoardSound → ∃ x u, d.Meets n x ∧ d.EntersAs n x u ∧
            t.dev.board = { u.board with screens := t.dev.board.screens } ∧
            (x.stop = .none → u.board.Holds n → PagesFollow d t.dev))

/-- VOID within 60 s of the last sale appends one VOID record naming it under the next serial, sets the voided flag, has the
sales state evaluated and takes the sale's passengers from its train's request, whose PENDING becomes NONE at a count of 0 with a
frame not yet begun withdrawn; no other entry changes, and where the train has none nothing but the journal and the sale state
does; in any other case it is answered VOID_REFUSED and nothing changes. BAD_PARAM carries the sales state, which is read from R135
(log 18) (R106, R109, R133, R145). -/
def Obligations.VoidTakesBackTheLastSale : Prop :=
  ∀ (ps : List Byte) (s : State) (d : Device), s.dev.takes .sale → ps.length = 3 → d = s.dev.closeExpired →
    (u24At ps 0 = 0 →
      exec (.void .sale ps) s =
        .next (s.answered .sale 6 (Cmd.response .void .badParam [BitVec.ofNat 8 d.sale.state.code]) d)) ∧
    (u24At ps 0 ≠ 0 →
      (¬ ∃ x, d.sale.lastSale = some x ∧ x.serial = u24At ps 0 ∧ x.voided = false ∧
          dateDiff d.clock.date x.date * 86400 + d.clock.second - x.second ≤ 60 ∧
          (∃ r ∈ d.journal.records, r.serial = x.serial ∧ ∃ f, r.body = .sale f) ∧
          d.journal.records.length + 1 ≤ 8 * d.journal.partition) →
      exec (.void .sale ps) s =
        .next (s.answered .sale 6 (Cmd.response .void .refused [BitVec.ofNat 8 d.sale.state.code, 15]) d)) ∧
    ∀ (x : LastSale) (serial : Nat), u24At ps 0 = x.serial → x.serial ≠ 0 → d.sale.lastSale = some x → x.voided = false →
      dateDiff d.clock.date x.date * 86400 + d.clock.second - x.second ≤ 60 →
      (∃ r ∈ d.journal.records, r.serial = x.serial ∧ ∃ f, r.body = .sale f) →
      d.journal.records.length + 1 ≤ 8 * d.journal.partition →
      d.journal.nextSerial = some serial → serial ≠ 16777216 →
      ∃ (t : State) (r : JournalRec), exec (.void .sale ps) s = .next t ∧
        s.Answered .sale 6 (Cmd.response .void .ok
          (BitVec.ofNat 8 t.dev.sale.state.code :: be24 serial ++ be24 x.serial ++ be24 x.price
            ++ [BitVec.ofNat 8 x.pay.code])) t ∧
        r = { serial := serial, date := d.clock.date, second := d.clock.second, body := .void x.serial,
              chain := crc16 ((d.journal.records.getLast?.map JournalRec.chain).getD d.journal.anchor)
                (recordBytes serial d.clock.date d.clock.second r.body) } ∧
        t.dev.journal = { d.journal with
          records := d.journal.records ++ [r], nextSerial := some (serial + 1), highest := some serial } ∧
        t.dev.sale = { d.sale with lastSale := some { x with voided := true }, state := t.dev.sale.state } ∧
        t.dev.SalesLawful ∧
        t.dev = { d with sale := t.dev.sale, journal := t.dev.journal, notices := { d.notices with sn1 := t.dev.notices.sn1 },
                         board := { d.board with screens := t.dev.board.screens }, ports := t.dev.ports
                         table := { d.table with entries := t.dev.table.entries }, sru := t.dev.sru
                         line := { d.line with slot0 := t.dev.line.slot0, slot1 := t.dev.line.slot1 } } ∧
        ((∀ n, x.train = some n → d.entry? n = none) →
          t.dev.table = d.table ∧ t.dev.sru = d.sru ∧ t.dev.line = d.line) ∧
        ∀ (n : Nat) (e : Entry), x.train = some n → d.entry? n = some e →
          (∀ m, m ≠ n → t.dev.entry? m = d.entry? m) ∧
          t.dev.entry? n = some { e with
            waiting := e.waiting - x.count
            stop := if e.waiting ≤ x.count ∧ e.stop = .pending then .none else e.stop } ∧
          (e.waiting ≤ x.count → e.stop = .pending → d.line.Lawful → d.table.Lawful →
            ∀ k f, t.dev.line.slot k = some f → f.train = n → f.begun = true)

/-- OPEN_SALES and CLOSE_SALES clear and set the sales-closed flag in every state, with the sales state evaluated at once and
answered; a change of the state sets SALES_STATE_CHANGED and moves SN1 (R134, R135, R168). -/
def Obligations.OpenAndCloseSales : Prop :=
  ∀ (s : State) (i : Instr) (c : Cmd) (b : Bool), s.dev.takes .office →
    (i = .openSales .office [] ∧ c = .openSales ∧ b = false ∨ i = .closeSales .office [] ∧ c = .closeSales ∧ b = true) →
    ∃ t, exec i s = .next t ∧ s.Answered .office 3 (Cmd.response c .ok [BitVec.ofNat 8 t.dev.sale.state.code]) t ∧
      t.dev = { s.dev with sale := t.dev.sale, notices := { s.dev.notices with sn1 := t.dev.notices.sn1 },
                           board := t.dev.board, ports := t.dev.ports } ∧
      t.dev.sale = { s.dev.sale with closedFlag := b, state := t.dev.sale.state } ∧ t.dev.SalesLawful ∧
      (b = true → t.dev.sale.state = .closed) ∧
      (t.dev.sale.state = s.dev.sale.state → t.dev.notices = s.dev.notices ∧ t.dev.board = s.dev.board) ∧
      (t.dev.sale.state ≠ s.dev.sale.state → t.dev.hasFlag .salesStateChanged = true ∧
        (t.dev.notices.sn1 = true ↔ t.dev.sale.state = .closed ∨ t.dev.sale.state = .suspended))

/-- Through every step the sales state stays the one that R134's table gives for its inputs; the armed flag of the Change-over
Unit is set exactly while the unit is ARMED or TIMING, its delay timer present exactly in TIMING; and each port's state agrees with
its response buffer and the command in hand, the ports STARTING exactly while the part does not run. That a command in hand is
held until RESPONSE_PLACED is the model's choice (log 2) (R134, R175, R179, R181, R184, R187, R188, R191, R195). -/
def Obligations.SalesChangeoverAndPortsStayLawful : Prop :=
  (∀ s t : State, s.dev.SalesLawful → step s = .next t → t.dev.SalesLawful) ∧
  (∀ s t : State, s.dev.co.Lawful → step s = .next t → t.dev.co.Lawful) ∧
  (∀ s t : State, s.dev.PortsLawful → step s = .next t → t.dev.PortsLawful)

/-- Through every step the journal keeps its laws: at most 8J records, serials strictly increasing from head to tail and below
the next serial, and a chain unbroken from the anchor (R137, R139, R141, R142). -/
def Obligations.JournalStaysLawful : Prop :=
  ∀ s t : State, s.dev.journal.Lawful → step s = .next t → t.dev.journal.Lawful

/-- SET_SERIAL_BASE takes a serial above highest issued on an empty journal, with the sales state evaluated afresh, and
SET_PARTITION takes a new block count on an empty journal with room for the notices held; each is answered BAD_PARAM or
REFUSED with BUSY otherwise, with nothing changed. Where the block count is the one held the response carries its data as well,
and the block counts in it take one byte, the model's choices (log 42, log 15) (R134, R138, R143). -/
def Obligations.SerialBaseAndPartition : Prop :=
  ∀ (ps : List Byte) (j : Byte) (s : State), s.dev.takes .office → ps.length = 3 →
    (u24At ps 0 = 0 ∨ 16777214 < u24At ps 0 →
      exec (.setSerialBase .office ps) s = .next (s.answered .office 6 (Cmd.response .setSerialBase .badParam []) s.dev)) ∧
    (∀ h, 1 ≤ u24At ps 0 → u24At ps 0 ≤ 16777214 → s.dev.journal.highest = some h → u24At ps 0 ≤ h →
      exec (.setSerialBase .office ps) s =
        .next (s.answered .office 6 (Cmd.response .setSerialBase .badParam (be24 h)) s.dev)) ∧
    (1 ≤ u24At ps 0 → u24At ps 0 ≤ 16777214 → (∀ h, s.dev.journal.highest = some h → h < u24At ps 0) →
      (s.dev.journal.records ≠ [] →
        exec (.setSerialBase .office ps) s =
          .next (s.answered .office 6 (Cmd.response .setSerialBase .refused [20]) s.dev)) ∧
      (s.dev.journal.records = [] →
        ∃ t, exec (.setSerialBase .office ps) s = .next t ∧
          s.Answered .office 6 (Cmd.response .setSerialBase .ok []) t ∧
          t.dev = { s.dev with journal := { s.dev.journal with nextSerial := some (u24At ps 0) },
                               sale := { s.dev.sale with state := t.dev.sale.state },
                               notices := { s.dev.notices with sn1 := t.dev.notices.sn1 },
                               board := t.dev.board, ports := t.dev.ports } ∧
          t.dev.SalesLawful)) ∧
    (j.toNat < 16 ∨ 56 < j.toNat →
      exec (.setPartition .office [j]) s = .next (s.answered .office 4 (Cmd.response .setPartition .badParam []) s.dev)) ∧
    (j.toNat = s.dev.journal.partition → 16 ≤ j.toNat → j.toNat ≤ 56 →
      exec (.setPartition .office [j]) s =
        .next (s.answered .office 4 (Cmd.response .setPartition .ok
          (j :: be16 (8 * j.toNat - s.dev.journal.records.length)
            ++ [BitVec.ofNat 8 (64 - j.toNat - s.dev.notices.items.length)])) s.dev)) ∧
    (j.toNat ≠ s.dev.journal.partition → 16 ≤ j.toNat → j.toNat ≤ 56 →
      (s.dev.journal.records ≠ [] ∨ 64 - j.toNat < s.dev.notices.items.length →
        exec (.setPartition .office [j]) s = .next (s.answered .office 4 (Cmd.response .setPartition .refused [20]) s.dev)) ∧
      (s.dev.journal.records = [] → s.dev.notices.items.length ≤ 64 - j.toNat →
        ∃ t, exec (.setPartition .office [j]) s = .next t ∧
          s.Answered .office 4 (Cmd.response .setPartition .ok
            (j :: be16 (8 * j.toNat) ++ [BitVec.ofNat 8 (64 - j.toNat - s.dev.notices.items.length)])) t ∧
          t.dev = { s.dev with journal := { s.dev.journal with partition := j.toNat },
                               sale := { s.dev.sale with state := t.dev.sale.state },
                               notices := { s.dev.notices with sn1 := t.dev.notices.sn1 },
                               board := t.dev.board, ports := t.dev.ports } ∧
          t.dev.SalesLawful))

/-- READ_JOURNAL returns up to 4 records from the oldest at or above the serial given, with the link before them, and changes
nothing; RELEASE removes every record up to a held serial from the head, moves the anchor to the newest removed and has the
sales state evaluated, and a serial above the tail is BAD_PARAM. The 2 bytes of the number removed are the model's choice (log 15)
(R134, R147, R148, R203). -/
def Obligations.ReadJournalAndRelease : Prop :=
  ∀ (ps : List Byte) (s : State) (lo hi : List JournalRec), s.dev.takes .office → ps.length = 3 →
    s.dev.journal.records = lo ++ hi →
    ((∀ r ∈ lo, r.serial < u24At ps 0) → (∀ r ∈ hi, u24At ps 0 ≤ r.serial) →
      exec (.readJournal .office ps) s =
        .next (s.answered .office 6 (Cmd.response .readJournal .ok
          (BitVec.ofNat 8 (min 4 hi.length) :: be16 ((lo.getLast?.map JournalRec.chain).getD s.dev.journal.anchor).toNat
            ++ [if 4 < hi.length then 1 else 0] ++ be16 s.dev.journal.records.length
            ++ be16 (8 * s.dev.journal.partition - s.dev.journal.records.length)
            ++ be24? (s.dev.journal.records.getLast?.map JournalRec.serial) ++ (hi.take 4).flatMap JournalRec.bytes)) s.dev)) ∧
    (1 ≤ u24At ps 0 → (∀ r, s.dev.journal.records.getLast? = some r → r.serial < u24At ps 0) →
      exec (.release .office ps) s =
        .next (s.answered .office 6 (Cmd.response .release .badParam
          (be24? (s.dev.journal.records.getLast?.map JournalRec.serial))) s.dev)) ∧
    ((∀ r ∈ lo, r.serial ≤ u24At ps 0) → (∀ r ∈ hi, u24At ps 0 < r.serial) →
      (u24At ps 0 = 0 ∨ ∃ r, s.dev.journal.records.getLast? = some r ∧ u24At ps 0 ≤ r.serial) →
      ∃ t, exec (.release .office ps) s = .next t ∧
        s.Answered .office 6 (Cmd.response .release .ok
          (be16 lo.length ++ be16 hi.length ++ be16 (8 * s.dev.journal.partition - hi.length)
            ++ be24? (hi.head?.map JournalRec.serial)
            ++ be16 ((lo.getLast?.map JournalRec.chain).getD s.dev.journal.anchor).toNat)) t ∧
        t.dev = { s.dev with
          journal := { s.dev.journal with
            records := hi, anchor := (lo.getLast?.map JournalRec.chain).getD s.dev.journal.anchor }
          sale := { s.dev.sale with state := t.dev.sale.state }
          notices := { s.dev.notices with sn1 := t.dev.notices.sn1 }
          board := t.dev.board, ports := t.dev.ports } ∧
        t.dev.SalesLawful)

/-! ## The line -/

/-- Every line frame row, by its frame, LINE_FRAME_DISCARDED (`lineFrameDiscarded`) among them, completes while the part runs:
the lowest-numbered filter that matches the identifier decides, or the default action; the last hit is written. A rejected
frame does no more. An accepted one returns a line that is down to LINE_UP with the failure count kept, LINE_CHANGED set and SN2
down; one that no block receives does no more than that. What it does on a line that is down is what it does in the state
that the return left, with the selection of the return before the frame's own effect or after it, in either order by R100 (log 41). Whether a SERVICE frame of fewer than two data bytes is received, by R65, or
discarded, by R39, is a free value (log 5) (R33, R36, R38 to R40, R47, R100, R110, R168). -/
def Obligations.FiltersDecide : Prop :=
  ∀ (i : Instr) (f : LineFrame) (s : State) (ident : BitVec 29) (hit : Option Nat) (action : FilterAction),
    lineFrame? i = some f → s.dev.phase = .running →
    ident.toNat = f.kind.toNat * 33554432 + f.train.toNat * 2048 + f.point.toNat →
    s.dev.line.Decides ident hit action →
    (action = .reject → exec i s = .next { s with dev := { s.dev with line := { s.dev.line with lastHit := hit } } }) ∧
    (action = .accept →
      (∃ t, exec i s = .next t ∧ s.Quiet t ∧ t.dev.line.lastHit = hit ∧ t.dev.line.state = .up ∧
        t.dev.line.failures = s.dev.line.failures ∧ t.dev.line.filters = s.dev.line.filters ∧
        t.dev.line.defaultAction = s.dev.line.defaultAction ∧
        (s.dev.line.state = .down → t.dev.hasFlag .lineChanged = true ∧ t.dev.notices.sn2 = false) ∧
        (¬ f.Reaches s.dev.halt.ownPoint →
          t.dev = { s.dev with
            line := { s.dev.line with lastHit := hit, state := .up, slot0 := t.dev.line.slot0, slot1 := t.dev.line.slot1 }
            notices := { s.dev.notices with sn2 := t.dev.notices.sn2 }
            board := { s.dev.board with screens := t.dev.board.screens }
            ports := t.dev.ports, sched := t.dev.sched })) ∧
      (s.dev.line.state = .down → ∃ u : State, s.Quiet u ∧ Device.LineReturned hit s.dev u.dev ∧
        ((s.dev.Selects { s.dev.line with lastHit := hit, state := .up } u.dev.line ∧ exec i s = exec i u) ∨
          (u.dev.line = { s.dev.line with lastHit := hit, state := .up } ∧
            ∃ w l, exec i u = .next w ∧ w.dev.Selects w.dev.line l ∧
              exec i s = .next { w with dev := { w.dev with line := l } }))) ∧
      (¬ f.Reaches s.dev.halt.ownPoint → s.dev.line.state = .up →
        exec i s = .next { s with dev := { s.dev with line := { s.dev.line with lastHit := hit } } }))

/-- SET_FILTER writes the four fields of a filter, or the default action for number 8, and nothing else; BAD_PARAM changes
nothing. RESTART_LINE empties both slots, sets the count to 0 and the line to LINE_UP, keeps filters, default action and last
hit, and answers the number of slots emptied and the state before; a selection then fills the free slots from the PENDING
requests, least time to go first. A filter number 8 with ignored fields out of range is BAD_PARAM (log 24), and the number of
slots emptied takes one byte (log 15): the model's choices (R37, R47, R49, R100, R110). -/
def Obligations.FiltersSetAndLineRestarted : Prop :=
  (∀ (ps : List Byte) (s : State), s.dev.takes .office → ps.length = 11 →
    (8 < byteAt ps 0 ∨ 1 < byteAt ps 1 ∨ 536870911 < u32At ps 2 ∨ 536870911 < u32At ps 6 ∨ byteAt ps 10 = 0 ∨
        2 < byteAt ps 10 →
      exec (.setFilter .office ps) s = .next (s.answered .office 14 (Cmd.response .setFilter .badParam []) s.dev)) ∧
    ∀ a : FilterAction, byteAt ps 1 ≤ 1 → u32At ps 2 ≤ 536870911 → u32At ps 6 ≤ 536870911 → byteAt ps 10 = a.code →
      (byteAt ps 0 = 8 →
        exec (.setFilter .office ps) s = .next (s.answered .office 14 (Cmd.response .setFilter .ok [])
          { s.dev with line := { s.dev.line with defaultAction := a } })) ∧
      (byteAt ps 0 < 8 →
        exec (.setFilter .office ps) s = .next (s.answered .office 14 (Cmd.response .setFilter .ok [])
          { s.dev with line := { s.dev.line with
            filters := s.dev.line.filters.set (byteAt ps 0)
              { enabled := decide (byteAt ps 1 = 1), code := BitVec.ofNat 29 (u32At ps 2),
                mask := BitVec.ofNat 29 (u32At ps 6), action := a } } }))) ∧
  ∀ (s : State) (n : Nat), s.dev.takes .office →
    n = (if s.dev.line.slot0 = none then 0 else 1) + (if s.dev.line.slot1 = none then 0 else 1) →
    ∃ t, exec (.restartLine .office []) s = .next t ∧
      s.Answered .office 3 (Cmd.response .restartLine .ok [BitVec.ofNat 8 n, BitVec.ofNat 8 s.dev.line.state.code]) t ∧
      t.dev = { s.dev with
        line := { s.dev.line with state := .up, failures := 0, attempt := none, lastEnd := none,
                                  slot0 := t.dev.line.slot0, slot1 := t.dev.line.slot1 }
        notices := { s.dev.notices with sn2 := t.dev.notices.sn2 }
        board := { s.dev.board with screens := t.dev.board.screens }
        ports := t.dev.ports, sched := t.dev.sched } ∧
      (s.dev.line.state = .up → t.dev.notices = s.dev.notices ∧ t.dev.board = s.dev.board) ∧
      (s.dev.line.state = .down → t.dev.hasFlag .lineChanged = true ∧ t.dev.notices.sn2 = false) ∧
      (∀ k f, t.dev.line.slot k = some f → s.dev.FreshFrame f) ∧
      ∀ e ∈ s.dev.table.entries, (0 < n ∨ s.dev.line.state = .down) → e.eligible = true →
        (∀ x ∈ s.dev.table.entries, x.eligible = true → x ≠ e →
          s.dev.timeToGo e < s.dev.timeToGo x ∨ (s.dev.timeToGo e = s.dev.timeToGo x ∧ e.train < x.train)) →
        t.dev.line.slot0 = some { train := e.train, point := s.dev.halt.ownPoint, waiting := e.waiting, failed := 0,
                                  begun := false, later := false }

/-- An attempt starts when the transmitter is free and a slot is QUEUED: the only QUEUED slot, or of two the one whose attempt
did not end last, or the one queued first where neither has ended (R43). An acknowledged attempt empties its slot, sets the
count to 0, returns the line to LINE_UP and moves a PENDING request of its train to SENT; the freed slot takes a fresh frame of
an eligible request, and one that waits is left out only when both slots are held, each by a frame kept or of a request with no
more time to go. That an end row ends the attempt under way, which it does not name, is the model's choice (log 46)
(R44, R47, R100, R102). -/
def Obligations.AttemptsStartAndAreAcknowledged : Prop :=
  (∀ s : State, s.dev.phase = .running →
    (s.dev.line.attempt ≠ none ∨ (s.dev.line.slot0 = none ∧ s.dev.line.slot1 = none) → exec .attemptStart s = .next s) ∧
    ∀ (k : SlotId) (f : TxFrame), s.dev.line.attempt = none → s.dev.line.slot k = some f →
      (s.dev.line.slot k.other = none ∨ s.dev.line.lastEnd = some k.other ∨
        (s.dev.line.lastEnd = none ∧ f.later = false ∧ ∀ g, s.dev.line.slot k.other = some g → g.later = true)) →
      exec .attemptStart s = .next { s with dev := { s.dev with
        line := { s.dev.line.setSlot k (some { f with begun := true }) with attempt := some k } } }) ∧
  ∀ (s : State) (k : SlotId) (f : TxFrame), s.dev.phase = .running → s.dev.table.Lawful →
    s.dev.line.attempt = some k → s.dev.line.slot k = some f →
    ∃ t, exec .attemptAcknowledged s = .next t ∧ s.Quiet t ∧
      t.dev = { s.dev with
        line := { s.dev.line with failures := 0, state := .up, attempt := none, lastEnd := some k,
                                  slot0 := t.dev.line.slot0, slot1 := t.dev.line.slot1 }
        table := { s.dev.table with entries := s.dev.table.entries.map (fun e =>
          if e.train = f.train ∧ e.stop = .pending then { e with stop := .sent } else e) }
        sru := t.dev.sru
        notices := { s.dev.notices with sn2 := t.dev.notices.sn2 }
        board := { s.dev.board with screens := t.dev.board.screens }
        ports := t.dev.ports, sched := t.dev.sched } ∧
      (∀ dir, (t.dev.button dir).state = (s.dev.button dir).state ∧ (t.dev.button dir).chosen = (s.dev.button dir).chosen) ∧
      (s.dev.line.state = .up → t.dev.notices = s.dev.notices) ∧
      (s.dev.line.state = .down → t.dev.hasFlag .lineChanged = true ∧ t.dev.notices.sn2 = false) ∧
      (∀ g, s.dev.line.slot k.other = some g → ∃ b, t.dev.line.slot k.other = some { g with later := b }) ∧
      (∀ j g, t.dev.line.slot j = some g → (j = k.other ∧ s.dev.line.slot j ≠ none) ∨ t.dev.FreshFrame g ∨
        (s.dev.line.state = .down ∧ g.begun = false ∧ g.train = f.train)) ∧
      ∀ e ∈ s.dev.table.entries, e.stop = .pending → (e.state = .running ∨ e.state = .approaching) → e.train ≠ f.train →
        (∃ j g, t.dev.line.slot j = some g ∧ g.train = e.train) ∨
          ∀ j, ∃ g, t.dev.line.slot j = some g ∧ ((j = k.other ∧ s.dev.line.slot j ≠ none) ∨
            ∃ x ∈ s.dev.table.entries, g.train = x.train ∧ x.stop = .pending ∧
              (x.state = .running ∨ x.state = .approaching) ∧
              (s.dev.timeToGo x < s.dev.timeToGo e ∨ (s.dev.timeToGo x = s.dev.timeToGo e ∧ x.train < e.train)))

/-- An attempt that ends without acknowledgement adds one failed attempt; at the sixteenth the frame has failed, its slot
empties and the failure count rises, staying at 3; at 3 the line goes LINE_DOWN with LINE_CHANGED set and SN2 up, and no
selection follows. That an end row ends the attempt under way (log 46) and is discarded with none under way (log 22) is the
model's choice (R45 to R47, R102). -/
def Obligations.FailedAttemptsCount : Prop :=
  (∀ s : State, s.dev.phase = .running → s.dev.line.attempt = none →
    exec .attemptNotAcknowledged s = .next s ∧ exec .attemptAcknowledged s = .next s) ∧
  ∀ (s : State) (k : SlotId) (f : TxFrame), s.dev.phase = .running → s.dev.line.attempt = some k →
    s.dev.line.slot k = some f →
    (f.failed + 1 < 16 →
      exec .attemptNotAcknowledged s = .next { s with dev := { s.dev with
        line := { s.dev.line.setSlot k (some { f with failed := f.failed + 1 }) with
                  attempt := none, lastEnd := some k } } }) ∧
    (15 ≤ f.failed →
      ∃ t, exec .attemptNotAcknowledged s = .next t ∧ s.Quiet t ∧
        t.dev = { s.dev with
          line := { s.dev.line with attempt := none, lastEnd := some k, failures := min 3 (s.dev.line.failures + 1)
                                    state := if 2 ≤ s.dev.line.failures then .down else s.dev.line.state
                                    slot0 := t.dev.line.slot0, slot1 := t.dev.line.slot1 }
          notices := { s.dev.notices with sn2 := t.dev.notices.sn2 }
          board := { s.dev.board with screens := t.dev.board.screens }
          ports := t.dev.ports, sched := t.dev.sched } ∧
        (∀ g, s.dev.line.slot k.other = some g → ∃ b, t.dev.line.slot k.other = some { g with later := b }) ∧
        (∀ j g, t.dev.line.slot j = some g →
          (j = k.other ∧ s.dev.line.slot j ≠ none) ∨ (t.dev.line.state = .up ∧ s.dev.FreshFrame g)) ∧
        (t.dev.line.state = s.dev.line.state → t.dev.notices = s.dev.notices ∧ t.dev.board = s.dev.board) ∧
        (2 ≤ s.dev.line.failures → s.dev.line.state = .up →
          t.dev.hasFlag .lineChanged = true ∧ t.dev.notices.sn2 = true))

/-- Through every step the Line Interface keeps its laws: at most 15 failed attempts in a slot, never one train in two slots,
one of two QUEUED slots queued first, an attempt only of a begun frame, and a count of at most 3 (R41, R42, R43, R46). -/
def Obligations.LineStaysLawful : Prop :=
  ∀ s t : State, s.dev.line.Lawful → step s = .next t → t.dev.line.Lawful

/-! ## The running table and the request stops -/

/-- A RUN frame that is a new report: at a route point, at the halt, or for an UNLISTED train away from the halt. The fields of
R61 or R62 are recorded, the state moves, of a CANCELLED entry the state before cancel; the stop request meets the cutoff and
the repetition; an entry in scope holds the forecast delay of R78; no other entry changes but one that makes way on a full
table. The Cue Queue is offered the cues that the report raises, in an order left open (log 6): DELAYED, MAY_NOT_STOP at the
cutoff, and APPROACHING or PASSING at a move to APPROACHING. A route point equal to the own point is judged as the halt (log 32)
(R55, R56, R58 to R63, R76, R78, R86, R103, R105, R171 to R174). -/
def Obligations.RunFrameRecordsANewReport : Prop :=
  ∀ (s : State) (train : BitVec 14) (point : BitVec 11) (data : List Byte) (e : Entry) (ev : RunEvent) (time : Nat),
    s.dev.NewReport train point data e ev time →
    ∃ t e', exec (.runFrame train point data) s = .next t ∧ s.Quiet t ∧ t.dev.entry? train.toNat = some e' ∧
      s.dev.OthersStay t.dev train.toNat ∧
      t.dev = { s.dev with line := t.dev.line, table := { s.dev.table with entries := t.dev.table.entries }
                           sru := t.dev.sru, board := t.dev.board, cues := t.dev.cues, co := t.dev.co
                           ports := t.dev.ports, sched := t.dev.sched } ∧
      e'.core = { e.core with
        touched := true, lastEvent := some ev, lastTime := some time, state := e'.state, beforeCancel := e'.beforeCancel
        lastIndex := e'.lastIndex, delay := e'.delay, haltArrival := e'.haltArrival, stop := e'.stop } ∧
      (point.toNat = s.dev.halt.ownPoint →
        e'.lastIndex = some 7 ∧ e'.delay = e.delay ∧
        e'.haltArrival = (if ev = .arrived then some time else e.haltArrival) ∧
        e.MovedTo (match ev with | .arrived => .atHalt | .departed => .departed | .passed => .passed) e') ∧
      (point.toNat ≠ s.dev.halt.ownPoint → e.held = none →
        e'.lastIndex = e.lastIndex ∧ e'.delay = e.delay ∧ e'.haltArrival = e.haltArrival ∧ e.MovedTo .running e') ∧
      (∀ h k r, point.toNat ≠ s.dev.halt.ownPoint → e.held = some h → h.call.route[k]? = some r → r.point = point.toNat →
        (∀ j x, j < k → h.call.route[j]? = some x → x.point ≠ point.toNat) →
        e'.lastIndex = some (k + 1) ∧ e'.delay = some (max (-1800) (min 21600 ((time : Int) - r.passing))) ∧
        e'.haltArrival = e.haltArrival ∧
        e.MovedTo (if ∃ a, h.call.approach = some a ∧ a ≤ k + 1 then .approaching else .running) e') ∧
      (e.held = none → e'.stop = e.stop) ∧ (∀ h, e.held = some h → e'.stop = stopAfterReport e e' h.call) ∧
      ((s.dev.entry? train.toNat = none → s.dev.tt.Lawful ∧ s.dev.halt.dwell ≤ 120) →
        (∃ cs : List Cue, cs.Perm (s.dev.reportCues e e') ∧ t.dev.cues = cs.foldl offerTo s.dev.cues) ∧
        (s.dev.cues = [] → s.dev.reportCues e e' ≠ [] → t.dev.hasFlag .cuePending = true)) ∧
      ∀ h x, e.held = some h → e'.inScope s.dev.clock.state = true →
        e'.forecastDelay s.dev.halt.early h.call = some x → ∃ a b, e'.forecast = some { delay := x, arrival := a, departure := b }

/-- A RUN frame whose date byte fits neither the entry's date nor the next, or today's for a train without an entry, is
ignored; a duplicate, a stale report, an unknown point, a second or event out of range, or a train already gone is touch only.
A RUN or SERVICE frame of a train that is not listed, with enter unlisted off, makes no entry. On a full table the oldest
replaceable entry makes way for the train of a RUN or SERVICE frame, whatever its action and listed or not, and with none
replaceable only TABLE_FULL is set. A SERVICE frame of fewer than two data bytes enters and touches its train, by R65, or is
discarded, by R39, as a free value has it (log 5); that the own point is judged before a route point is read from R60 (log 32)
(R39, R55, R56, R58 to R60, R62, R63, R65, R73). -/
def Obligations.FramesThatOnlyTouch : Prop :=
  (∀ (s : State) (train : BitVec 14) (point : BitVec 11) (data : List Byte) (e : Entry) (f : LineFrame),
    f = { kind := 1, train := train, point := point, data := data } → s.dev.Hears f →
    1 ≤ train.toNat → train.toNat ≤ 9999 → 5 ≤ data.length → s.dev.entry? train.toNat = some e →
    (byteAt data 4 ≠ e.date.toNat % 256 → byteAt data 4 ≠ (e.date + 1).toNat % 256 →
      exec (.runFrame train point data) s = .next (s.heard f)) ∧
    ((byteAt data 4 = e.date.toNat % 256 ∨ byteAt data 4 = (e.date + 1).toNat % 256) →
      (86399 < u24At data 1 ∨ byteAt data 0 = 0 ∨ 3 < byteAt data 0 ∨ e.effectiveState = .departed ∨
        e.effectiveState = .passed ∨
        (∃ ev, RunEvent.ofCode (byteAt data 0) = some ev ∧
          ((point.toNat = s.dev.halt.ownPoint ∧ ¬ e.NewAt 7 ev) ∨
            (point.toNat ≠ s.dev.halt.ownPoint ∧ ∃ h, e.held = some h ∧
              ((∀ r ∈ h.call.route, r.point ≠ point.toNat) ∨
                ∃ k r, h.call.route[k]? = some r ∧ r.point = point.toNat ∧
                  (∀ j x, j < k → h.call.route[j]? = some x → x.point ≠ point.toNat) ∧ ¬ e.NewAt (k + 1) ev)) ∨
            (point.toNat ≠ s.dev.halt.ownPoint ∧ e.held = none ∧ e.effectiveState ≠ .expected ∧
              e.effectiveState ≠ .running)))) →
      exec (.runFrame train point data) s =
        .next ((s.heard f).becomes ((s.heard f).dev.updateEntry train.toNat (fun x => { x with touched := true }))))) ∧
  (∀ (s : State) (train : BitVec 14) (point : BitVec 11) (data : List Byte) (f : LineFrame),
    f = { kind := 1, train := train, point := point, data := data } → s.dev.Hears f →
    1 ≤ train.toNat → train.toNat ≤ 9999 → 5 ≤ data.length → s.dev.entry? train.toNat = none →
    (byteAt data 4 ≠ s.dev.clock.date.toNat % 256 ∨
      (s.dev.tt.lookup s.dev.clock.date train.toNat = none ∧ s.dev.halt.enterUnlisted = false)) →
    exec (.runFrame train point data) s = .next (s.heard f)) ∧
  (∀ (i : Instr) (s : State) (f : LineFrame), lineFrame? i = some f → f.kind = 2 → s.dev.Hears f →
    1 ≤ f.train.toNat → f.train.toNat ≤ 9999 → s.dev.entry? f.train.toNat = none →
    s.dev.tt.lookup s.dev.clock.date f.train.toNat = none → s.dev.halt.enterUnlisted = false →
    exec i s = .next (s.heard f)) ∧
  (∀ (i : Instr) (s : State) (f : LineFrame) (e : Entry), lineFrame? i = some f → f.kind = 2 → f.data.length < 2 →
    s.dev.Hears f → 1 ≤ f.train.toNat → f.train.toNat ≤ 9999 → s.dev.entry? f.train.toNat = some e →
    exec i s = .next ((s.heard f).becomes (if Config.shortServiceTaken = true then
        (s.heard f).dev.updateEntry f.train.toNat (fun x => { x with touched := true }) else (s.heard f).dev))) ∧
  (∀ (s : State) (train : BitVec 14) (point : BitVec 11) (data : List Byte) (f : LineFrame),
    f = { kind := 1, train := train, point := point, data := data } → s.dev.Hears f → s.dev.table.Lawful →
    1 ≤ train.toNat → train.toNat ≤ 9999 → 5 ≤ data.length → s.dev.entry? train.toNat = none →
    s.dev.table.entries.length = 24 → byteAt data 4 = s.dev.clock.date.toNat % 256 →
    (s.dev.tt.lookup s.dev.clock.date train.toNat ≠ none ∨ s.dev.halt.enterUnlisted = true) →
    ((∀ e ∈ s.dev.table.entries, ¬ e.Replaceable) →
      exec (.runFrame train point data) s = .next ((s.heard f).becomes (s.heard f).dev.filled)) ∧
    ∀ v, s.dev.MakesWay train.toNat v →
      ∃ t e', exec (.runFrame train point data) s = .next t ∧ s.Quiet t ∧ s.dev.OthersStay t.dev train.toNat ∧
        t.dev.entry? train.toNat = some e' ∧ e'.date = s.dev.clock.date ∧ e'.touched = true ∧
        e'.held = s.dev.tt.lookup s.dev.clock.date train.toNat ∧ t.dev.table.full = s.dev.table.full) ∧
  ∀ (i : Instr) (s : State) (f : LineFrame), lineFrame? i = some f → f.kind = 2 → s.dev.Hears f → s.dev.table.Lawful →
    (f.data.length < 2 → Config.shortServiceTaken = true) → 1 ≤ f.train.toNat → f.train.toNat ≤ 9999 → s.dev.entry? f.train.toNat = none → s.dev.table.entries.length = 24 →
    (s.dev.tt.lookup s.dev.clock.date f.train.toNat ≠ none ∨ s.dev.halt.enterUnlisted = true) →
    ((∀ e ∈ s.dev.table.entries, ¬ e.Replaceable) →
      exec i s = .next ((s.heard f).becomes (s.heard f).dev.filled)) ∧
    ∀ v, s.dev.MakesWay f.train.toNat v →
      ∃ t e', exec i s = .next t ∧ s.Quiet t ∧ s.dev.OthersStay t.dev f.train.toNat ∧
        t.dev.entry? f.train.toNat = some e' ∧ e'.date = s.dev.clock.date ∧ e'.touched = true ∧
        (e'.held = none ↔ s.dev.tt.lookup s.dev.clock.date f.train.toNat = none) ∧
        t.dev.table.full = s.dev.table.full ∧
        (f.data.length < 2 ∨ byteAt f.data 0 = 0 ∨ 4 ≤ byteAt f.data 0 →
          e'.core = Entry.fresh f.train.toNat s.dev.clock.date (s.dev.tt.lookup s.dev.clock.date f.train.toNat))

/-- A SERVICE frame of action CANCEL, REINSTATE or PLATFORM, on the entry its train has or is given: the state, the state before
cancel or the platform change, the stop request is dropped or made again, and the cue of a CANCEL or PLATFORM is offered; in the
cases the rules name the frame is touch only, and one of fewer than two data bytes is among them where it is handed on, which
R65 and R39 leave to a free value (log 5). No other entry changes but one that makes way on a full table (R55, R56, R65 to R68, R107, R172). -/
def Obligations.ServiceActionsActOnTheEntry : Prop :=
  ∀ (s : State) (i : Instr) (train : BitVec 14) (point : BitVec 11) (data : List Byte) (e : Entry),
    s.dev.ServiceTaken i train point data e →
    ∃ t e', exec i s = .next t ∧ s.Quiet t ∧ t.dev.entry? train.toNat = some e' ∧
      s.dev.OthersStay t.dev train.toNat ∧
      t.dev = { s.dev with line := t.dev.line, table := { s.dev.table with entries := t.dev.table.entries }
                           sru := t.dev.sru, board := t.dev.board, cues := t.dev.cues, co := t.dev.co
                           ports := t.dev.ports, sched := t.dev.sched } ∧
      ((∃ p r, i = .cancel train p r) →
        (e.state = .expected ∨ e.state = .running ∨ e.state = .approaching ∨ e.state = .atHalt →
          e'.core = { e.core with
            touched := true, state := .cancelled, beforeCancel := some e.state
            stop := if e.stop = .pending ∨ e.stop = .sent then .none else e.stop } ∧
          (s.dev.entry? train.toNat = some e → e'.forecast = e.forecast ∧
            t.dev.cues = offerTo s.dev.cues
              { kind := .cancelled, train := some train.toNat, platform := e.held.map (fun h => h.call.platform)
                notice := none, priority := 2, second := s.dev.clock.second })) ∧
        (e.state = .cancelled ∨ e.state = .departed ∨ e.state = .passed → e'.core = { e.core with touched := true })) ∧
      ((∃ p r, i = .reinstate train p r) →
        (∀ b, e.state = .cancelled → e.beforeCancel = some b →
          e'.core = { e.core with
            touched := true, state := b, beforeCancel := none
            stop := if e.stop = .none ∧ 1 ≤ e.waiting ∧ (b = .expected ∨ b = .running ∨ b = .approaching) ∧
                (∃ h, e.held = some h ∧ h.call.kind = .request ∧ belowCutoff e.lastIndex h.call = true) then .pending
              else e.stop }) ∧
        (e.state ≠ .cancelled → e'.core = { e.core with touched := true })) ∧
      (∀ p b r, i = .platform train p (b :: r) →
        (∀ h, e.held = some h → e.state ≠ .departed → e.state ≠ .passed → 1 ≤ b.toNat → b.toNat ≤ 4 →
          b.toNat ≠ h.call.platform →
          e'.core = { e.core with touched := true, held := some { h with call := { h.call with platform := b.toNat } } } ∧
          (s.dev.entry? train.toNat = some e →
            t.dev.cues = offerTo s.dev.cues
              { kind := .platformChange, train := some train.toNat, platform := some b.toNat, notice := none
                priority := 2, second := s.dev.clock.second })) ∧
        ((∀ h, e.held = some h →
            e.state = .departed ∨ e.state = .passed ∨ b = 0 ∨ 4 < b.toNat ∨ b.toNat = h.call.platform) →
          e'.core = { e.core with touched := true })) ∧
      (i = .serviceFrameTouchOnly train point data → e'.core = { e.core with touched := true })

/-- The sweep removes the entries that R71's table names and ages the others by R72; it clears TABLE_FULL when it removes one;
the removed trains of today that finished join the finished set while it has room, no frame of theirs not yet begun stays in a
slot, and no button keeps one as its chosen train. A row with no sweep due does nothing, which is the model's choice (log 8)
(R70 to R73, R108, R155). -/
def Obligations.SweepRemovesAndAges : Prop :=
  ∀ s : State, s.dev.phase = .running →
    (s.dev.clock.dueSweep = 0 → exec .sweepTick s = .next s) ∧
    ∀ (n : Nat) (gone left : List Entry), s.dev.clock.dueSweep = n + 1 → s.dev.table.Lawful →
      (∀ e, e ∈ gone ↔ e ∈ s.dev.table.entries ∧ e.RemovedAt (s.dev.clockOn e)) →
      left.Sublist s.dev.table.entries → (∀ e, e ∈ left ↔ e ∈ s.dev.table.entries ∧ ¬ e.RemovedAt (s.dev.clockOn e)) →
      ∃ t, exec .sweepTick s = .next t ∧ s.Quiet t ∧
        t.dev = { s.dev with
          clock := { s.dev.clock with dueSweep := n }
          table := { entries := left.map (fun e =>
              if e.touched = true then { e with idleSweeps := 0, stale := false, touched := false }
              else { e with idleSweeps := min 3 (e.idleSweeps + 1)
                            stale := if 2 ≤ e.idleSweeps then true else e.stale })
                     full := if gone = [] then s.dev.table.full else false }
          line := t.dev.line, sru := t.dev.sru, board := t.dev.board, co := t.dev.co, ports := t.dev.ports
          sched := t.dev.sched } ∧
        (∀ x ∈ t.dev.board.finished, x ∈ s.dev.board.finished ∨ ∃ e ∈ gone, e.train = x ∧ e.date = s.dev.clock.date ∧
          (e.state = .departed ∨ e.state = .passed ∨ e.state = .cancelled)) ∧
        (∀ x ∈ s.dev.board.finished, x ∈ t.dev.board.finished) ∧
        (∀ e ∈ gone, t.dev.board.finished.length < 96 → e.date = s.dev.clock.date →
          (e.state = .departed ∨ e.state = .passed ∨ e.state = .cancelled) →
          s.dev.tt.lookup s.dev.clock.date e.train ≠ none → e.train ∈ t.dev.board.finished) ∧
        (s.dev.line.Lawful → ∀ e ∈ gone, ∀ k f, t.dev.line.slot k = some f → f.train = e.train → f.begun = true) ∧
        ∀ e ∈ gone, ∀ dir, (t.dev.button dir).chosen ≠ some e.train

/-- A STOPACK for this halt touches the entry of its train and confirms a request in PENDING, SENT or UNCONFIRMED of a train
that has not departed or passed: the lamp that follows the train goes Steady, a watched sale is told and a PENDING request's
frame not yet begun is withdrawn. In every other case it is a touch, and without an entry nothing (R69, R93, R98, R104). -/
def Obligations.StopackConfirmsTheRequest : Prop :=
  ∀ (s : State) (train : BitVec 14) (point : BitVec 11) (data : List Byte) (f : LineFrame),
    f = { kind := 5, train := train, point := point, data := data } → s.dev.Hears f →
    1 ≤ train.toNat → train.toNat ≤ 9999 → point.toNat = s.dev.halt.ownPoint →
    (s.dev.entry? train.toNat = none → exec (.stopack train point data) s = .next (s.heard f)) ∧
    ∀ e, s.dev.entry? train.toNat = some e →
      (e.state = .departed ∨ e.state = .passed ∨ e.stop = .none ∨ e.stop = .confirmed →
        exec (.stopack train point data) s =
          .next ((s.heard f).becomes ((s.heard f).dev.updateEntry train.toNat (fun x => { x with touched := true })))) ∧
      (e.state ≠ .departed → e.state ≠ .passed → (e.stop = .pending ∨ e.stop = .sent ∨ e.stop = .unconfirmed) →
        ∃ t, exec (.stopack train point data) s = .next t ∧ s.Quiet t ∧
          t.dev = { s.dev with
            line := { (s.heard f).dev.line with slot0 := t.dev.line.slot0, slot1 := t.dev.line.slot1 }
            table := { s.dev.table with entries := t.dev.table.entries }
            sru := t.dev.sru, board := { s.dev.board with screens := t.dev.board.screens }, ports := t.dev.ports } ∧
          t.dev.entry? train.toNat = some { e with touched := true, stop := .confirmed } ∧
          (∀ m, m ≠ train.toNat → t.dev.entry? m = s.dev.entry? m) ∧
          (∀ dir, (t.dev.button dir).state = (s.dev.button dir).state ∧
            (t.dev.button dir).chosen = (s.dev.button dir).chosen ∧
            ((s.dev.button dir).chosen = some train.toNat →
              (t.dev.button dir).lamp =
                (if e.state = .expected ∨ e.state = .running ∨ e.state = .approaching then .steady else .off)) ∧
            ((s.dev.button dir).chosen ≠ some train.toNat → t.dev.button dir = s.dev.button dir)) ∧
          (e.saleWatch = true → t.dev.hasFlag .stopStateChanged = true) ∧
          (e.stop = .pending → s.dev.line.Lawful → s.dev.table.Lawful →
            ∀ k g, t.dev.line.slot k = some g → g.train = train.toNat → g.begun = true))

/-- The buttons: a press from RELEASED chooses the call of least time to go, lower train number first, adds one to its request,
makes NONE PENDING and takes the train as the button's chosen one, entering a day-list call first, on a full table in place of the
entry that makes way, with the departure lists following; a press with no call to choose, or on a table with no place, changes the
button state alone, TABLE_FULL aside; a press while PRESSED does nothing. A release, and a half period of a Flashing lamp
(R56, R57, R93, R95 to R98, R158, R162). -/
def Obligations.ButtonsPressReleaseAndFlash : Prop :=
  ∀ (s : State) (dir : Direction) (b : Button), s.dev.phase = .running → b = s.dev.button dir →
    exec (.buttonRelease dir) s = .next (s.becomes (s.dev.setButton dir { b with state := .released })) ∧
    (b.lamp = .flashing → exec (.lampFlash dir) s = .next (s.becomes (s.dev.setButton dir { b with lit := !b.lit }))) ∧
    (b.lamp ≠ .flashing → exec (.lampFlash dir) s = .next s) ∧
    (b.state = .pressed → exec (.buttonPress dir) s = .next s) ∧
    (b.state = .released →
      ((∀ n g, ¬ s.dev.PressMayChoose dir n g) →
        exec (.buttonPress dir) s = .next (s.becomes (s.dev.setButton dir { b with state := .pressed }))) ∧
      ∀ (n : Nat) (g : Int), s.dev.table.Lawful → s.dev.PressMayChoose dir n g →
        (∀ m x, s.dev.PressMayChoose dir m x → g < x ∨ (g = x ∧ n ≤ m)) →
        (s.dev.entry? n = none → s.dev.table.entries.length = 24 →
          (∀ e ∈ s.dev.table.entries, e.state ≠ .departed ∧ e.state ≠ .passed ∧ e.state ≠ .cancelled) →
          exec (.buttonPress dir) s =
            .next (s.becomes (s.dev.setButton dir { b with state := .pressed }).filled)) ∧
        ((s.dev.entry? n = none → s.dev.table.entries.length < 24 ∨ ∃ v, s.dev.MakesWay n v) →
          ∃ t e', exec (.buttonPress dir) s = .next t ∧ s.Quiet t ∧ t.dev.entry? n = some e' ∧ s.dev.OthersStay t.dev n ∧
            t.dev = { s.dev with line := t.dev.line, table := { s.dev.table with entries := t.dev.table.entries }
                                 sru := t.dev.sru, board := t.dev.board, cues := t.dev.cues, co := t.dev.co
                                 ports := t.dev.ports, sched := t.dev.sched } ∧
            (t.dev.button dir).state = .pressed ∧ (t.dev.button dir).chosen = some n ∧
            (t.dev.button dir).lamp = (if e'.stop = .confirmed then .steady
              else if e'.stop = .pending ∨ e'.stop = .sent then .flashing else .off) ∧
            (∀ e, s.dev.entry? n = some e → e' = { e with
              waiting := min 15 (e.waiting + 1), stop := if e.stop = .none then .pending else e.stop }) ∧
            (s.dev.entry? n = none → ∃ h, s.dev.tt.lookup s.dev.clock.date n = some h ∧
              e'.core = { Entry.fresh n s.dev.clock.date (some h) with waiting := 1, stop := .pending }) ∧
            (s.dev.BoardSound → ∃ x u, s.dev.Meets n x ∧ s.dev.EntersAs n x u ∧
              t.dev.board = { u.board with screens := t.dev.board.screens } ∧
              (x.stop = .none → u.board.Holds n → PagesFollow s.dev t.dev))))

/-- Through every step the running table keeps its laws: at most 24 entries and never two of one train, held in ascending order
of train number by the model's choice (log 30), every field in its range, and no request PENDING or SENT in an entry whose last point index has reached its call's cutoff; the banks that calls
are copied from are lawful, as BanksStayLawful says (R51, R56, R61, R74, R81, R92, R105). -/
def Obligations.RunningTableStaysLawful : Prop :=
  ∀ s t : State, s.dev.tt.Lawful → s.dev.table.Lawful → s.dev.StopsLawful →
    (∀ e ∈ s.dev.table.entries, e.RangesLawful) → step s = .next t →
    t.dev.table.Lawful ∧ t.dev.StopsLawful ∧ ∀ e ∈ t.dev.table.entries, e.RangesLawful

/-- The law of the forecasts, through every step: an entry in EXPECTED, RUNNING, APPROACHING or AT_HALT that holds a forecast has
a forecast delay in -E to 21600, and of a STOP or REQUEST call a departure not before its scheduled one; no entry holds a forecast
while the clock is UNSET, and each holds the report that its state needs for the next recompute (R61, R62, R75, R76, R78, R80,
R81). -/
def Obligations.ForecastsStayLawful : Prop :=
  ∀ s t : State, s.dev.tt.Lawful → s.dev.table.Lawful → s.dev.ForecastsLawful → step s = .next t → t.dev.ForecastsLawful

/-! ## The board, the notices and the cues -/

/-- PUT_NOTICE in parts: a part that follows is gathered with OK, one that does not is FRAME_ERROR and empties the assembly, as
does a whole command of the wrong length. The whole command with a field out of range is BAD_PARAM; a notice of a number held
replaces it, a CANNED one keeping the shown flag of a CANNED one; a new notice is stored in its place when the free blocks meet
the count of its priority, else STORE_FULL. The new or replacing notice is judged in window at once, every page is recomposed
and a NOTICE cue is offered where it announces. A command with no part byte is FRAME_ERROR and empties the assembly. A part is
answered at once, bits 3 to 6 of its byte are ignored and an index above 3 follows none, as read from R190 (log 23); a moment is
absent when its date and second both have all bits set, as read from R202 (log 44); the free blocks take one byte (log 15) and the
notices are held by ascending number (log 30), the model's choices (R163 to R165, R167, R169, R172, R190). -/
def Obligations.PutNoticeGathersAndStores : Prop :=
  ∀ (s s0 : State) (part : Byte) (rest : List Byte) (x : Port), s.dev.takes .office → rest.length ≤ 61 →
    x = s.dev.port .office → s0 = s.withPort .office { x with assembly := none } →
    (part.toNat % 8 ≠ 0 → (∀ a, x.assembly = some a → part.toNat % 8 ≠ a.last + 1 ∨ 3 < part.toNat % 8) →
      exec (.putNotice .office (part :: rest)) s =
        .next (s0.ready .office (rest.length + 4) (Cmd.response .putNotice .frameError []))) ∧
    exec (.putNotice .office []) s = .next (s0.ready .office 3 (Cmd.response .putNotice .frameError [])) ∧
    (part.toNat < 128 → part.toNat % 8 = 0 →
      exec (.putNotice .office (part :: rest)) s =
        .next ((s.withPort .office { x with assembly := some { gathered := rest, last := 0 } }).ready .office
          (rest.length + 4) (Cmd.response .putNotice .ok []))) ∧
    (∀ a, x.assembly = some a → part.toNat < 128 → part.toNat % 8 = a.last + 1 → part.toNat % 8 ≤ 3 →
      exec (.putNotice .office (part :: rest)) s =
        .next ((s.withPort .office { x with
            assembly := some { gathered := a.gathered ++ rest, last := a.last + 1 } }).ready .office
          (rest.length + 4) (Cmd.response .putNotice .ok []))) ∧
    (∀ ps, x.EndsWith part rest ps → ps.length ≠ 17 + byteAt ps 16 →
      exec (.putNotice .office (part :: rest)) s =
        .next (s0.ready .office (rest.length + 4) (Cmd.response .putNotice .frameError []))) ∧
    (∀ ps, x.EndsWith part rest ps → ps.length = 17 + byteAt ps 16 →
      (byteAt ps 0 = 0 ∨ byteAt ps 1 = 0 ∨ 2 < byteAt ps 1 ∨ 3 < byteAt ps 2 ∨ 15 < byteAt ps 3 ∨ byteAt ps 4 = 0 ∨
        2 < byteAt ps 4 ∨ 1 < byteAt ps 5 ∨ byteAt ps 16 = 0 ∨ 120 < byteAt ps 16 ∨
        (∃ c ∈ ps.drop 17, c.toNat < 32 ∨ 126 < c.toNat) ∨
        (∃ m, (SentMoment ps 6 m ∨ SentMoment ps 11 m) ∧ 86399 < m.second) ∨
        ∃ a b, SentMoment ps 6 a ∧ SentMoment ps 11 b ∧ ¬ b.After a) →
      exec (.putNotice .office (part :: rest)) s =
        .next (s0.answered .office (rest.length + 4) (Cmd.response .putNotice .badParam []) s0.dev)) ∧
    ∀ (n : Notice) (free : Nat), n.Valid → x.EndsWith part rest n.params → s.dev.NoticesLawful →
      free = 64 - s.dev.journal.partition - s.dev.notices.items.length →
      ((∀ o ∈ s.dev.notices.items, o.number ≠ n.number) →
        free < (match n.priority with | 3 => 1 | 2 => 2 | 1 => 3 | _ => 5) →
        exec (.putNotice .office (part :: rest)) s =
          .next (s0.answered .office (rest.length + 4)
            (Cmd.response .putNotice .refused [19, BitVec.ofNat 8 free]) s0.dev)) ∧
      (((∃ o ∈ s.dev.notices.items, o.number = n.number) ∨
          (match n.priority with | 3 => 1 | 2 => 2 | 1 => 3 | _ => 5) ≤ free) →
        ∃ t n' items data, exec (.putNotice .office (part :: rest)) s = .next t ∧
          s0.Answered .office (rest.length + 4) (Cmd.response .putNotice .ok data) t ∧
          n' = { n with shown := n'.shown, inWindow := n'.inWindow } ∧
          (n'.inWindow = true ↔ n.OpenAt s.dev.nowMoment) ∧
          (n'.shown = true ↔ n.kind = .office ∨
            ∃ o ∈ s.dev.notices.items, o.number = n.number ∧ o.kind = .canned ∧ o.shown = true) ∧
          s.dev.noticeChanged items
            (if n'.announce = true ∧ n'.shown = true ∧ n'.inWindow = true then some n' else none) t.dev ∧
          ((∃ o ∈ s.dev.notices.items, o.number = n.number) →
            data = [] ∧ items = s.dev.notices.items.map (fun o => if o.number = n.number then n' else o)) ∧
          ((∀ o ∈ s.dev.notices.items, o.number ≠ n.number) →
            data = [BitVec.ofNat 8 (free - 1)] ∧ ∃ before after, s.dev.notices.items = before ++ after ∧
              (∀ o ∈ before, o.number < n.number) ∧ (∀ o ∈ after, n.number < o.number) ∧
              items = before ++ n' :: after))

/-- REMOVE_NOTICE removes a stored notice; SHOW_NOTICE and HIDE_NOTICE set and clear the shown flag of a CANNED one, and a
LINENOTICE does the same from the line; a number not stored, or for the flag an OFFICE notice, is BAD_PARAM, or ignored from
the line. A change recomposes every page; a notice that becomes shown in window offers its cue; a flag already so changes
nothing (R166, R167, R169, R172). -/
def Obligations.NoticesRemovedShownAndHidden : Prop :=
  ∀ (k : Byte) (s : State), s.dev.NoticesLawful →
    (s.dev.takes .office →
      ((∀ o ∈ s.dev.notices.items, o.number ≠ k.toNat) →
        exec (.removeNotice .office [k]) s =
          .next (s.answered .office 4 (Cmd.response .removeNotice .badParam []) s.dev)) ∧
      ((∃ o ∈ s.dev.notices.items, o.number = k.toNat) →
        ∃ t, exec (.removeNotice .office [k]) s = .next t ∧
          s.Answered .office 4 (Cmd.response .removeNotice .ok []) t ∧
          s.dev.noticeChanged (s.dev.notices.items.filter (fun o => decide (o.number ≠ k.toNat))) none t.dev)) ∧
    ∀ (i : Instr) (c : Cmd) (b : Bool),
      (i = .showNotice .office [k] ∧ c = .showNotice ∧ b = true ∨ i = .hideNotice .office [k] ∧ c = .hideNotice ∧ b = false) →
      (s.dev.takes .office → (∀ o ∈ s.dev.notices.items, o.number = k.toNat → o.kind = .office) →
        exec i s = .next (s.answered .office 4 (Cmd.response c .badParam []) s.dev)) ∧
      (∀ n ∈ s.dev.notices.items, n.number = k.toNat → n.kind = .canned →
        (s.dev.takes .office → n.shown = b →
          exec i s = .next (s.answered .office 4 (Cmd.response c .ok []) s.dev)) ∧
        (s.dev.takes .office → n.shown ≠ b → ∃ t, exec i s = .next t ∧
          s.Answered .office 4 (Cmd.response c .ok []) t ∧
          s.dev.noticeChanged (s.dev.notices.items.map (fun o => if o.number = k.toNat then { o with shown := b } else o))
            (if b = true ∧ n.announce = true ∧ n.inWindow = true then some n else none) t.dev)) ∧
      ∀ (train : BitVec 14) (point : BitVec 11) (code : Byte) (rest : List Byte) (f : LineFrame),
        f = { kind := 6, train := train, point := point, data := k :: code :: rest } → s.dev.Hears f →
        ((code.toNat = 0 ∨ 2 < code.toNat ∨ ∀ o ∈ s.dev.notices.items, o.number = k.toNat → o.kind = .office) →
          exec (.linenotice train point (k :: code :: rest)) s = .next (s.heard f)) ∧
        (code.toNat = (if b = true then 1 else 2) → ∀ n ∈ s.dev.notices.items, n.number = k.toNat → n.kind = .canned →
          (n.shown = b → exec (.linenotice train point (k :: code :: rest)) s = .next (s.heard f)) ∧
          (n.shown ≠ b → ∃ t, exec (.linenotice train point (k :: code :: rest)) s = .next t ∧ s.Quiet t ∧
            (s.heard f).dev.noticeChanged
              (s.dev.notices.items.map (fun o => if o.number = k.toNat then { o with shown := b } else o))
              (if b = true ∧ n.announce = true ∧ n.inWindow = true then some n else none) t.dev))

/-- SET_SCREEN and SET_GROUP take their settings, rebuild every list and recompose every page; REPORT_SCREEN sets a health,
and a change recomposes that screen's page alone. A page that differs takes the next sequence number and sets PAGE_CHANGED; a
number or a field out of range is BAD_PARAM and changes nothing (R151, R152, R156, R162). -/
def Obligations.ScreensAndGroupsAreSet : Prop :=
  (∀ (k e m : Byte) (s : State), s.dev.takes .office →
    (5 < k.toNat ∨ 1 < e.toNat ∨ 15 < m.toNat →
      exec (.setScreen .office [k, e, m]) s =
        .next (s.answered .office 6 (Cmd.response .setScreen .badParam []) s.dev)) ∧
    ∀ screens, k.toNat ≤ 5 → e.toNat ≤ 1 → m.toNat ≤ 15 →
      screens = s.dev.board.screens.modify k.toNat
        (fun x => { x with enabled := decide (e = 1), groups := BitVec.ofNat 4 m.toNat }) →
      ∃ t, exec (.setScreen .office [k, e, m]) s = .next t ∧
        s.Answered .office 6 (Cmd.response .setScreen .ok []) t ∧
        t.dev = { s.dev with board := { s.dev.board with lists := t.dev.board.lists, screens := t.dev.board.screens }
                             ports := t.dev.ports } ∧
        t.dev.board.lists = [0, 1, 2, 3].map t.dev.rebuilt ∧ t.dev.board.screens = t.dev.recomposedFrom screens ∧
        ((∃ x ∈ screens, t.dev.composePage x ≠ x.page) → t.dev.hasFlag .pageChanged = true)) ∧
  (∀ (g m : Byte) (s : State), s.dev.takes .office →
    (3 < g.toNat ∨ 15 < m.toNat →
      exec (.setGroup .office [g, m]) s = .next (s.answered .office 5 (Cmd.response .setGroup .badParam []) s.dev)) ∧
    (g.toNat ≤ 3 → m.toNat ≤ 15 →
      ∃ t, exec (.setGroup .office [g, m]) s = .next t ∧ s.Answered .office 5 (Cmd.response .setGroup .ok []) t ∧
        t.dev = { s.dev with board := { s.dev.board with
                               groups := s.dev.board.groups.set g.toNat (BitVec.ofNat 4 m.toNat)
                               lists := t.dev.board.lists, screens := t.dev.board.screens }
                             ports := t.dev.ports } ∧
        t.dev.board.lists = [0, 1, 2, 3].map t.dev.rebuilt ∧
        t.dev.board.screens = t.dev.recomposedFrom s.dev.board.screens ∧
        ((∃ x ∈ s.dev.board.screens, t.dev.composePage x ≠ x.page) → t.dev.hasFlag .pageChanged = true))) ∧
  ∀ (k h : Byte) (s : State), s.dev.takes .board →
    (5 < k.toNat ∨ h.toNat = 0 ∨ 2 < h.toNat →
      exec (.reportScreen .board [k, h]) s =
        .next (s.answered .board 5 (Cmd.response .reportScreen .badParam []) s.dev)) ∧
    ∀ (x y : Screen), k.toNat ≤ 5 → s.dev.board.screens[k.toNat]? = some x →
      (h.toNat = 1 ∧ y = { x with health := .ok } ∨ h.toNat = 2 ∧ y = { x with health := .fault }) →
      (y = x → exec (.reportScreen .board [k, h]) s =
        .next (s.answered .board 5 (Cmd.response .reportScreen .ok []) s.dev)) ∧
      (y ≠ x → ∃ t, exec (.reportScreen .board [k, h]) s = .next t ∧
        s.Answered .board 5 (Cmd.response .reportScreen .ok []) t ∧
        t.dev = { s.dev with board := { s.dev.board with screens := t.dev.board.screens }, ports := t.dev.ports } ∧
        t.dev.board.screens = s.dev.board.screens.set k.toNat
          (if t.dev.composePage y = y.page then y else { y with page := t.dev.composePage y, seq := y.seq + 1 }) ∧
        (t.dev.composePage y ≠ y.page → t.dev.hasFlag .pageChanged = true))

/-- A rebuilt departure list holds the candidates of lowest key in key order, up to the share that the split table gives its group,
and every candidate left out lies behind a full list (R153, R154, R156). The day list that candidates come from holds at most
one call of any train, so that a lookup finds the one call of its train that runs on the date, or nothing (R10, R14, R15). The lists at the entry notices:
a RUN frame that is a new report and a CANCEL or REINSTATE that acts keep, rebuild or leave and refill each list for their train, a
PLATFORM change rebuilds the lists of both platforms, a touch leaves the lists, a train entered is judged first, and each removal
of a sweep, in an order left open (log 6), takes the train from its lists after the finished set; the pages follow where a list is
rebuilt or holds the train (R55, R64, R73, R155, R157, R158, R162). A train with another call after a step back of the date is judged
by its number, and its place keeps the key it was listed with (log 43). -/
def Obligations.DayAndDepartureListsAreInOrder : Prop :=
  (∀ (d : Device) (g : Nat), d.table.Lawful → d.tt.Lawful → d.board.groups.length = 4 → g < 4 →
    (d.rebuilt g).length ≤ d.board.share g ∧ (d.rebuilt g).Pairwise Member.Before ∧
    (∀ m ∈ d.rebuilt g, d.Candidate g m) ∧
    (∀ m, d.Candidate g m → m ∉ d.rebuilt g →
      (d.rebuilt g).length = d.board.share g ∧ ∀ x ∈ d.rebuilt g, x.Before m) ∧
    ∀ n k mask, n = (d.board.groups.filter (fun m => m ≠ 0)).length →
      k = ((d.board.groups.take g).filter (fun m => m ≠ 0)).length → d.board.groups[g]? = some mask →
      d.board.share g =
        if mask = 0 then 0 else if n = 1 then 8 else if n = 2 then 4 else if n = 3 then (if k = 2 then 2 else 3) else 2) ∧
  (∀ (tt : TimetableStore) (x : Date), tt.Lawful →
    ((tt.dayList x).map (fun h => h.call.train)).Nodup ∧
    ∀ (t : Nat) (h : HeldCall), tt.lookup x t = some h ↔
      h.call ∈ tt.active.calls ∧ h.call.train = t ∧ h.call.days.getLsbD (x.toNat % 7) = true ∧
        tt.active.names[h.call.dest]? = some h.name) ∧
  (∀ (s : State) (train : BitVec 14) (point : BitVec 11) (data : List Byte) (e : Entry) (ev : RunEvent) (time : Nat),
    s.dev.NewReport train point data e ev time → s.dev.BoardSound →
    ∃ t e' u, exec (.runFrame train point data) s = .next t ∧ t.dev.entry? train.toNat = some e' ∧
      s.dev.EntersAs train.toNat e u ∧ BoardNoticed train.toNat (e'.state = .departed ∨ e'.state = .passed) u t.dev) ∧
  (∀ (s : State) (i : Instr) (train : BitVec 14) (point : BitVec 11) (data : List Byte) (e : Entry),
    s.dev.ServiceTaken i train point data e → s.dev.BoardSound →
    ∃ t e' u, exec i s = .next t ∧ t.dev.entry? train.toNat = some e' ∧ s.dev.EntersAs train.toNat e u ∧
      (e'.core = { e.core with touched := true } → t.dev.board = u.board) ∧
      (e'.state ≠ e.state → BoardNoticed train.toNat False u t.dev) ∧
      ∀ h h', e.held = some h → e'.held = some h' → h'.call.platform ≠ h.call.platform →
        PlatformNoticed train.toNat h.call.platform h'.call.platform u t.dev) ∧
  ∀ (s : State) (n : Nat), s.dev.phase = .running → s.dev.clock.dueSweep = n + 1 → s.dev.BoardSound →
    ∃ (t : State) (order : List Entry) (e : Device), exec .sweepTick s = .next t ∧ order.Nodup ∧
      (∀ x, x ∈ order ↔ x ∈ s.dev.table.entries ∧ x.RemovedAt (s.dev.clockOn x)) ∧
      RemovedInTurn order { s.dev with clock := { s.dev.clock with dueSweep := n } } e ∧ t.dev.board = e.board

/-- What a composed page shows: nothing on a disabled screen; the clock minute of N, absent while the clock is UNSET, and the
halt name; in the ticker the system notices that are up and routed, and of the stored ones only those routed to the screen in
TICKER form, at most six in all in the order of R161; as takeover a routed PAGE notice that no other routed one precedes;
otherwise the lists of its groups merged in key order, each member's row with its status word, countdown and request-stop text,
or the line that stands for empty lists. The departure of an entry without a forecast is free (log 12). The model's choices: a member
whose entry of today holds no call has the row of its day-list call, one with neither has none (log 28), and a train that two
lists hold under different keys stands at the lower (log 43) (R88 to R91, R159 to R161, R168, R169). -/
def Obligations.PagesShowWhatIsRouted : Prop :=
  ∀ (d : Device) (s : Screen) (p : Page), d.NoticesLawful → p = d.composePage s →
    (s.enabled = false → p.blank = true ∧ p.clockMinute = none ∧ p.haltName = [] ∧ p.body = .none ∧ p.ticker = []) ∧
    (s.enabled = true → p.blank = false ∧ p.haltName = d.halt.name ∧
      p.clockMinute = (if d.clock.state = .unset then none else some ((d.clock.second / 60 + 180) % 1440)) ∧
      p.ticker.length ≤ 6 ∧ p.ticker.Pairwise TickerEntry.Ahead ∧
      (∀ k, .system k ∈ p.ticker → s.health = .ok ∧
        ((k = 1 ∧ d.notices.sn1 = true ∧ s.groups.getLsbD 0 = true) ∨ (k = 2 ∧ d.notices.sn2 = true ∧ s.groups ≠ 0) ∨
          (k = 3 ∧ d.notices.sn3 = true ∧ s.groups ≠ 0))) ∧
      (s.health = .ok →
        (d.notices.sn1 = true → s.groups.getLsbD 0 = true → .system 1 ∈ p.ticker) ∧
        (d.notices.sn2 = true → s.groups ≠ 0 → .system 2 ∈ p.ticker) ∧
        (d.notices.sn3 = true → s.groups ≠ 0 → .system 3 ∈ p.ticker)) ∧
      (∀ k q t, .stored k q t ∈ p.ticker →
        ∃ n ∈ d.notices.items, n.number = k ∧ n.priority = q ∧ n.text = t ∧ n.form = .ticker ∧ n.RoutedTo s) ∧
      (∀ n ∈ d.notices.items, n.form = .ticker → n.RoutedTo s → .stored n.number n.priority n.text ∉ p.ticker →
        p.ticker.length = 6 ∧ ∀ x ∈ p.ticker, x.Ahead (.stored n.number n.priority n.text)) ∧
      (∀ n ∈ d.notices.items, n.form = .page → n.RoutedTo s →
        (∀ m ∈ d.notices.items, m.form = .page → m.RoutedTo s →
          m.priority < n.priority ∨ (m.priority = n.priority ∧ n.number ≤ m.number)) →
        p.body = .takeover (.stored n.number n.priority n.text)) ∧
      ((∀ n ∈ d.notices.items, n.form = .page → ¬ n.RoutedTo s) →
        ((∀ g, g < 4 → s.groups.getLsbD g = true → d.board.groupMask g = 0) → p.body = .none) ∧
        ((∃ g, g < 4 ∧ s.groups.getLsbD g = true ∧ d.board.groupMask g ≠ 0) →
          (∀ g, g < 4 → s.groups.getLsbD g = true → d.board.groupMask g ≠ 0 → d.board.list g = []) →
          p.body = .noTrains) ∧
        (d.table.Lawful → d.tt.Lawful → (∃ g, d.ShownGroup s g ∧ d.board.list g ≠ []) →
          ∃ (ms : List Member) (row : Member → Option Row), d.Merged s ms ∧ p.body = .rows (ms.filterMap row) ∧
            ∀ m ∈ ms, d.RowOf m (row m))))

/-- A cue offered to a queue of fewer than 16 is appended; to a full queue it enters only with a priority above the lowest
present, in place of the oldest cue of that lowest priority, and is dropped otherwise (R173). TAKE_CUE hands over the oldest
cue with the number left, or a count of 0, and CUE_PENDING follows the queue (R174). The bytes of its response are the model's
choice (log 15). -/
def Obligations.CuesAreOfferedAndTaken : Prop :=
  (∀ (cs : List Cue) (c : Cue), cs.length < 16 → offerTo cs c = cs ++ [c]) ∧
  (∀ (before after : List Cue) (x c : Cue), before.length + 1 + after.length = 16 → x.priority ≤ 3 →
    (∀ y ∈ before, x.priority < y.priority) → (∀ y ∈ after, x.priority ≤ y.priority) →
    offerTo (before ++ x :: after) c =
      if x.priority < c.priority then before ++ after ++ [c] else before ++ x :: after) ∧
  (∀ (d : Device) (c : Cue), d.cues = [] → (d.offerCue c).hasFlag .cuePending = true) ∧
  (∀ s : State, s.dev.takes .board → s.dev.cues = [] →
    exec (.takeCue .board []) s =
      .next (s.answered .board 3 (Cmd.response .takeCue .ok [0]) (s.dev.clearFlag .cuePending))) ∧
  ∀ (s : State) (c : Cue) (cs : List Cue), s.dev.takes .board → s.dev.cues = c :: cs →
    ∃ t data, exec (.takeCue .board []) s = .next t ∧
      s.Answered .board 3 (Cmd.response .takeCue .ok (data ++ [BitVec.ofNat 8 cs.length])) t ∧
      t.dev = { s.dev with cues := cs, ports := t.dev.ports } ∧
      (cs = [] → t.dev.hasFlag .cuePending = false) ∧
      (c.notice = none →
        data = [BitVec.ofNat 8 c.kind.code] ++ be16 (c.train.getD 0)
          ++ [BitVec.ofNat 8 (c.platform.getD 0), 0, BitVec.ofNat 8 c.priority] ++ be24 c.second) ∧
      (∀ n ∈ s.dev.notices.items, c.notice = some n.number → s.dev.NoticesLawful →
        data = [BitVec.ofNat 8 c.kind.code] ++ be16 (c.train.getD 0)
          ++ [BitVec.ofNat 8 (c.platform.getD 0), BitVec.ofNat 8 n.number, BitVec.ofNat 8 c.priority] ++ be24 c.second
          ++ [1] ++ beText n.text ++ [BitVec.ofNat 8 n.priority])

/-- Through every step the board and the notices keep their laws: the notices fit their blocks and are held by ascending
number, an order that is the model's choice (log 30), the service second stays below 86400, cues and finished set keep to their sizes, no departure list exceeds its share and
the lists together 8 trains, and no list holds a train twice while the table and the banks are lawful
(R21, R153, R155, R163, R170). -/
def Obligations.BoardAndNoticesStayLawful : Prop :=
  (∀ s t : State, s.dev.NoticesLawful → s.dev.board.Lawful → s.dev.BoundsLawful → step s = .next t →
    t.dev.NoticesLawful ∧ t.dev.board.Lawful ∧ t.dev.BoundsLawful) ∧
  (∀ b : Board, b.Lawful → (b.lists.map List.length).sum ≤ 8) ∧
  ∀ s t : State, s.dev.tt.Lawful → s.dev.table.Lawful → s.dev.board.NoTrainTwice → step s = .next t → t.dev.board.NoTrainTwice

/-! ## The clock, the settings and the readers -/

/-- A second of the part's oscillator: the counter goes on, from 86399 to 0 of the next date; while the part runs it raises the
ticks of R22, and the sync age, the candidate's age and the delay timer count elapsed seconds, the first only while SYNCED. That
they are counted by this row, where they stay once an expiry is due, and that a candidate's window closes within the second in which its age has
passed 120, is the model's choice (log 8, log 9) (R20 to R23, R26, R27, R180). -/
def Obligations.SecondAdvanceCounts : Prop :=
  ∀ (s : State) (x : Date) (sec : Nat),
    (s.dev.clock.second < 86399 ∧ x = s.dev.clock.date ∧ sec = s.dev.clock.second + 1 ∨
      s.dev.clock.second = 86399 ∧ x = s.dev.clock.date + 1 ∧ sec = 0) →
    (s.dev.phase ≠ .running →
      exec .secondAdvance s =
        .next { s with dev := { s.dev with clock := { s.dev.clock with date := x, second := sec } } }) ∧
    (s.dev.phase = .running →
      exec .secondAdvance s = .next { s with dev := { s.dev with
        clock := { s.dev.clock with
          date := x, second := sec
          dueMinute := s.dev.clock.dueMinute + if sec % 60 = 0 then 1 else 0
          dueSweep := s.dev.clock.dueSweep + if sec % 600 = 0 then 1 else 0
          dueDay := s.dev.clock.dueDay + if sec = 0 then 1 else 0
          syncAge := if s.dev.clock.state = .synced then min 21600 (s.dev.clock.syncAge + 1) else s.dev.clock.syncAge
          candidate := s.dev.clock.candidate.bind (fun k => if k.age ≤ 120 then some { k with age := k.age + 1 } else none) }
        co := { s.dev.co with
          timer := s.dev.co.timer.map (fun k => { k with elapsed := min s.dev.co.delay (k.elapsed + 1) }) } } })

/-- A due minute tick: every entry in scope is recomputed with the overdue test, quotes past their expiry are closed with
QUOTE_EXPIRED, every list loses the members no longer candidates, expired notices are removed and the rest judged in window,
and LAST_CALL_DONE is tested; the place a member leaves is refilled by R157, and every page is recomposed. QUOTE_EXPIRY and
NOTICE_EXPIRY are the Sale Unit's and the Notice Store's parts of a due tick; without one due nothing happens; several notices
that change at one tick raise a page sequence number once; a member is judged by its train number: the model's choices (log 8,
log 10, log 19, log 43) (R22, R76, R77, R125, R157, R158, R162, R167, R178). -/
def Obligations.MinuteTickIsTaken : Prop :=
  ∀ s : State, s.dev.phase = .running →
    (s.dev.clock.dueMinute = 0 →
      exec .minuteTick s = .next s ∧ exec .quoteExpiry s = .next s ∧ exec .noticeExpiry s = .next s) ∧
    ∀ (n : Nat) (keep : Option Quote → Option Quote) (items : List Notice), s.dev.clock.dueMinute = n + 1 →
      (∀ q, keep q = q.filter (fun x =>
        decide (dateDiff s.dev.clock.date x.date * 86400 + s.dev.clock.second ≤ x.expiry))) →
      items = (s.dev.notices.items.filter (fun x => !x.expired s.dev.nowMoment)).map
        (fun x => { x with inWindow := x.windowOpen s.dev.nowMoment }) →
      (∃ t, exec .quoteExpiry s = .next t ∧ s.Quiet t ∧
        t.dev = { s.dev with sale := { s.dev.sale with slotA := keep s.dev.sale.slotA, slotB := keep s.dev.sale.slotB }
                             ports := t.dev.ports } ∧
        (t.dev.sale ≠ s.dev.sale → t.dev.hasFlag .quoteExpired = true)) ∧
      (∃ t, exec .noticeExpiry s = .next t ∧ s.Quiet t ∧
        t.dev = { s.dev with notices := { s.dev.notices with items := items }, cues := t.dev.cues, ports := t.dev.ports
                             board := { s.dev.board with screens := t.dev.board.screens }, sched := t.dev.sched } ∧
        (items = s.dev.notices.items → t.dev.board = s.dev.board) ∧
        (items ≠ s.dev.notices.items → t.dev.board.screens = t.dev.recomposedFrom s.dev.board.screens)) ∧
      ∃ t, exec .minuteTick s = .next t ∧ s.Quiet t ∧
        t.dev = { s.dev with
          clock := { s.dev.clock with dueMinute := n }
          table := { s.dev.table with entries := t.dev.table.entries }
          sale := { s.dev.sale with slotA := keep s.dev.sale.slotA, slotB := keep s.dev.sale.slotB }
          notices := { s.dev.notices with items := items }
          board := { s.dev.board with lists := [0, 1, 2, 3].map s.dev.pruned, screens := t.dev.board.screens }
          cues := t.dev.cues, co := t.dev.co, ports := t.dev.ports, sched := t.dev.sched } ∧
        (s.dev.table.Lawful → t.dev.table.entries = s.dev.recomputed true) ∧
        (s.dev.board.NoTrainTwice → ∀ g, g < 4 →
          LeaveTested (s.dev.Candidate g) (s.dev.board.list g) (t.dev.board.list g)) ∧
        PagesFollow s.dev t.dev ∧
        (t.dev.sale ≠ s.dev.sale → t.dev.hasFlag .quoteExpired = true) ∧
        (¬ s.dev.LastCallDue s.dev.co → s.dev.co.unit ≠ .timing → t.dev.co = s.dev.co) ∧
        (s.dev.LastCallDue s.dev.co → t.dev.co = s.dev.co.lastCallRaised s.dev.clock.date)

/-- The clock's steps: a time mark by the tests of R24 (ignored, a step, or held as the candidate), SET_TIME, the end of the
sync age and the close of a candidate's window. A step sets the reading, makes the clock SYNCED and raises each tick it crosses
once; a change of state is handed to the sales state, SN3, the forecasts and the board, which recomposes every page. A mark
agrees with a candidate of an age up to 120 s, and at an age of 121 s, the second in which its window closes, as long as the
closing has not been taken, the model's choice of that moment (log 9) (R23 to R31, R76, R134, R162, R168). -/
def Obligations.ClockStepsAndExpiries : Prop :=
  (∀ (s : State) (train : BitVec 14) (point : BitVec 11) (data : List Byte) (f : LineFrame) (x : Date) (sec : Nat),
    f = { kind := 3, train := train, point := point, data := data } → s.dev.Hears f → 5 ≤ data.length →
    x = BitVec.ofNat 16 (u16At data 0) → sec = u24At data 2 →
    (86399 < sec ∨ (s.dev.clock.state ≠ .unset ∧ dateDiff x s.dev.clock.date < 0) →
      exec (.timemark train point data) s = .next (s.heard f)) ∧
    (sec ≤ 86399 → s.dev.table.Lawful →
      (s.dev.clock.state = .unset ∨ (0 ≤ dateDiff x s.dev.clock.date ∧
        ((-300 ≤ s.dev.clock.ahead x sec ∧ s.dev.clock.ahead x sec ≤ 300) ∨
          ∃ k, s.dev.clock.candidate = some k ∧ k.age ≤ 121 ∧
            -2 ≤ dateDiff x k.date * 86400 + sec - k.second - k.age ∧
            dateDiff x k.date * 86400 + sec - k.second - k.age ≤ 2))) →
      ∃ t, exec (.timemark train point data) s = .next t ∧ s.Quiet t ∧ Stepped x sec (s.heard f).dev t.dev) ∧
    (sec ≤ 86399 → s.dev.clock.state ≠ .unset → 0 ≤ dateDiff x s.dev.clock.date →
      (s.dev.clock.ahead x sec < -300 ∨ 300 < s.dev.clock.ahead x sec) →
      (∀ k, s.dev.clock.candidate = some k →
        121 < k.age ∨ dateDiff x k.date * 86400 + sec - k.second - k.age < -2 ∨
          2 < dateDiff x k.date * 86400 + sec - k.second - k.age) →
      exec (.timemark train point data) s =
        .next ((s.heard f).becomes { (s.heard f).dev with
          clock := { s.dev.clock with candidate := some { date := x, second := sec, age := 0 } } }))) ∧
  (∀ (ps : List Byte) (s : State), s.dev.takes .office → ps.length = 5 →
    (86399 < u24At ps 2 →
      exec (.setTime .office ps) s = .next (s.answered .office 8 (Cmd.response .setTime .badParam []) s.dev)) ∧
    (u24At ps 2 ≤ 86399 → s.dev.table.Lawful →
      ∃ t, exec (.setTime .office ps) s = .next t ∧ Stepped (BitVec.ofNat 16 (u16At ps 0)) (u24At ps 2) s.dev t.dev ∧
        s.Answered .office 8 (Cmd.response .setTime .ok
          (be16 s.dev.clock.date.toNat ++ be24 s.dev.clock.second ++ [BitVec.ofNat 8 s.dev.clock.state.code])) t)) ∧
  ∀ s : State, s.dev.phase = .running →
    (s.dev.clock.state ≠ .synced ∨ s.dev.clock.syncAge < 21600 → exec .syncAgeExpiry s = .next s) ∧
    (s.dev.clock.state = .synced → 21600 ≤ s.dev.clock.syncAge →
      ∃ t, exec .syncAgeExpiry s = .next t ∧ s.Quiet t ∧
        ClockHandedOn { s.dev.clock with state := .free, syncAge := 0 } s.dev.table.entries s.dev t.dev) ∧
    ((∀ k, s.dev.clock.candidate = some k → k.age ≤ 120) → exec .candidateWindowClose s = .next s) ∧
    ∀ k, s.dev.clock.candidate = some k → 120 < k.age →
      exec .candidateWindowClose s =
        .next (s.becomes { s.dev with clock := { s.dev.clock with candidate := none } })

/-- SET_HALT takes every setting at once and answers those before, or BAD_PARAM with the place of the first field out of
range. A changed W or E recomputes every entry in scope and recomposes the pages, as a changed name does; a changed reserve has
the sales state evaluated; a lowered upload mark at or below the occupied count sets JOURNAL_MARK; the other settings are read
where they are used. The one byte of the place is the model's choice (log 15)
(R75, R76, R134, R146, R162, R197, R204). -/
def Obligations.SetHaltTakesEverySetting : Prop :=
  (∀ (ps : List Byte) (s : State) (n : Nat), s.dev.takes .office → ps.length ≤ 62 → ps.length = 12 + byteAt ps 2 →
    FirstToFail (HaltCheck ps) 8 n →
    exec (.setHalt .office ps) s =
      .next (s.answered .office (ps.length + 3) (Cmd.response .setHalt .badParam [BitVec.ofNat 8 n]) s.dev)) ∧
  ∀ (h : HaltSettings) (s : State), s.dev.takes .office → h.Valid → s.dev.table.Lawful →
    ∃ t, exec (.setHalt .office h.params) s = .next t ∧
      s.Answered .office (h.name.length + 15) (Cmd.response .setHalt .ok s.dev.halt.params) t ∧
      t.dev = { s.dev with
        halt := h, table := { s.dev.table with entries := t.dev.table.entries }
        sale := { s.dev.sale with state := t.dev.sale.state }
        notices := { s.dev.notices with sn1 := t.dev.notices.sn1 }
        board := { s.dev.board with screens := t.dev.board.screens }
        cues := t.dev.cues, ports := t.dev.ports, sched := t.dev.sched } ∧
      t.dev.table.entries = (if h.dwell = s.dev.halt.dwell ∧ h.early = s.dev.halt.early then s.dev.table.entries
        else ({ s.dev with halt := h } : Device).recomputed false) ∧
      (h.name ≠ s.dev.halt.name ∨ h.dwell ≠ s.dev.halt.dwell ∨ h.early ≠ s.dev.halt.early → PagesFollow s.dev t.dev) ∧
      (h.reserve = s.dev.halt.reserve → t.dev.sale = s.dev.sale ∧ t.dev.notices = s.dev.notices) ∧
      (h.reserve ≠ s.dev.halt.reserve → t.dev.SalesLawful) ∧
      (h.name = s.dev.halt.name → h.dwell = s.dev.halt.dwell → h.early = s.dev.halt.early →
        h.reserve = s.dev.halt.reserve → t.dev.board = s.dev.board ∧ t.dev.cues = s.dev.cues) ∧
      (h.uploadMark < s.dev.halt.uploadMark → h.uploadMark ≤ s.dev.journal.records.length →
        t.dev.hasFlag .journalMark = true)

/-- READ_PAGE, READ_DEPARTURES and READ_STATUS answer OK with what they read, byte by byte in the layouts of R203, and change
nothing; a parameter out of range is BAD_PARAM. READ_DEPARTURES lists the candidates of R200 in key order, each train once, or
the one departure of a train. The model's own: the BAD_PARAM beside a train number from 1 to 9999 (log 48), the widths and absent codes that no rule gives (log 15), the absent fields of a
departure (log 29), the segment byte (log 17), the order of the notices in section 4 (log 30), and three free values: the departure of an entry without a forecast (log 12), a
next serial that 3 bytes do not hold (log 13) and the dash of a system notice (log 14) (R31, R162, R200 to R203). -/
def Obligations.ReadersAnswerAndChangeNothing : Prop :=
  (∀ (k : Byte) (s : State), s.dev.takes .board →
    (∀ x, s.dev.board.screens[k.toNat]? = some x →
      exec (.readPage .board [k]) s =
        .next (s.answered .board 4 (Cmd.response .readPage .ok (pageLayout k.toNat x)) s.dev)) ∧
    (s.dev.board.screens.length ≤ k.toNat →
      exec (.readPage .board [k]) s = .next (s.answered .board 4 (Cmd.response .readPage .badParam []) s.dev))) ∧
  (∀ (p : PortId) (ps : List Byte) (s : State) (d : Device), s.dev.takes p → ps.length = 4 → d = s.dev.atCommand p →
    (byteAt ps 0 = 0 ∨ 2 < byteAt ps 0 ∨ byteAt ps 1 = 0 ∨ 8 < byteAt ps 1 ∨ 9999 < u16At ps 2 →
      exec (.readDepartures p ps) s =
        .next (s.answered p 7 (Cmd.response .readDepartures .badParam []) d)) ∧
    ∀ dir, byteAt ps 0 = directionCode dir → 1 ≤ byteAt ps 1 → byteAt ps 1 ≤ 8 → u16At ps 2 ≤ 9999 →
      (u16At ps 2 = 0 →
        ∃ ls, d.ListsDepartures dir (byteAt ps 1) ls ∧
          exec (.readDepartures p ps) s = .next (s.answered p 7 (Cmd.response .readDepartures .ok
            (ls.flatMap ListedDeparture.bytes)) d)) ∧
      (∀ e, u16At ps 2 ≠ 0 → d.entry? (u16At ps 2) = some e →
        ∃ bs, d.DepartureLaidOut (.entry e) bs ∧
          exec (.readDepartures p ps) s = .next (s.answered p 7 (Cmd.response .readDepartures .ok bs) d)) ∧
      (∀ h, u16At ps 2 ≠ 0 → d.entry? (u16At ps 2) = none → d.tt.lookup d.clock.date (u16At ps 2) = some h →
        ∃ bs, d.DepartureLaidOut (.call h) bs ∧
          exec (.readDepartures p ps) s = .next (s.answered p 7 (Cmd.response .readDepartures .ok bs) d)) ∧
      (u16At ps 2 ≠ 0 → d.entry? (u16At ps 2) = none → d.tt.lookup d.clock.date (u16At ps 2) = none →
        exec (.readDepartures p ps) s = .next (s.answered p 7 (Cmd.response .readDepartures .ok []) d))) ∧
  ∀ (n : Byte) (s : State), s.dev.takes .office →
    (n.toNat = 0 ∨ 6 < n.toNat →
      exec (.readStatus .office [n]) s =
        .next (s.answered .office 4 (Cmd.response .readStatus .badParam []) s.dev)) ∧
    (n.toNat = 1 → s.dev.clock.state = .synced → s.dev.clock.candidate = none →
      exec (.readStatus .office [n]) s = .next (s.answered .office 4 (Cmd.response .readStatus .ok
        (be16 s.dev.clock.date.toNat ++ be24 s.dev.clock.second ++ [2] ++ be16 s.dev.clock.syncAge
          ++ [0, 0xFF, 0xFF, 0xFF, 0xFF, 0xFF, 0xFF])) s.dev)) ∧
    (1 ≤ n.toNat → n.toNat ≤ 6 →
      ∃ bs, s.dev.SectionLaidOut n.toNat bs ∧
        exec (.readStatus .office [n]) s = .next (s.answered .office 4 (Cmd.response .readStatus .ok bs) s.dev))

/-- The forecast arithmetic of a recompute: F by state from the reported delay and the margin, A and Dep with their limits, the
delay cue and its flag; on a minute tick the overdue slide. With OVERDUE set already, the flags are cleared at the halt or
while N lies below the arrival of R79, as R83 has it even after a backward step of the clock (log 40), and otherwise the slid
arrival stands until N reaches it again. F lies in -E to 21600, and the departure of a STOP or REQUEST call is never before its
scheduled one (R76, R78 to R83, R86). -/
def Obligations.ForecastArithmetic : Prop :=
  ∀ (e e1 e2 : Entry) (h : HeldCall) (W E : Nat) (n f : Int) (a dep : Nat) (cue tickCue : Bool),
    e.held = some h → h.call.schedDep ≤ 86399 →
    (e.state = .expected ∧ f = 0 ∨
      ((e.state = .running ∨ e.state = .approaching) ∧ ∃ d k r, e.delay = some d ∧ -1800 ≤ d ∧ d ≤ 21600 ∧
        e.lastIndex = some (k + 1) ∧ h.call.route[k]? = some r ∧
        f = if (r.margin : Int) < d then d - r.margin else if 0 ≤ d then 0 else max d (-(E : Int))) ∨
      (e.state = .atHalt ∧ ∃ t, e.haltArrival = some t ∧
        f = max (-(E : Int)) (min 21600 ((t : Int) - h.call.schedArr)))) →
    (∀ t, e.state = .atHalt → e.haltArrival = some t → a = min t 108119) →
    (e.state ≠ .atHalt → (a : Int) = min (max 0 (h.call.schedArr + f)) 108119) →
    e.DepFrom h.call W n a dep →
    (e1, cue) = e.recompute W E n false → (e2, tickCue) = e.recompute W E n true →
    -(E : Int) ≤ f ∧ f ≤ 21600 ∧ (h.call.kind ≠ .pass → h.call.schedDep ≤ dep) ∧
    (cue = true ↔ h.call.kind ≠ .pass ∧ e.delayCued = false ∧ e1.delayCued = true) ∧
    (tickCue = true ↔ h.call.kind ≠ .pass ∧ e.delayCued = false ∧ e2.delayCued = true) ∧
    (e.overdue = false →
      e1 = { e with forecast := some { delay := f, arrival := a, departure := dep }, delayCued := e.cuedAfter h.call dep } ∧
      (e.state = .atHalt ∨ n < a → e2 = e1) ∧
      (e.state ≠ .atHalt → (a : Int) ≤ n →
        ∃ a' dep' : Nat, (a' : Int) = min (n + 60) 108119 ∧ e.DepFrom h.call W n a' dep' ∧
          e2 = { e with
            forecast := some { delay := f, arrival := a', departure := dep' }
            overdue := true, firstOverdue := some a, overdueLong := decide ((a : Int) + 300 ≤ n)
            delayCued := e.cuedAfter h.call dep' })) ∧
    (e.overdue = true →
      (e.state = .atHalt ∨ n < a →
        e1 = { e with
          forecast := some { delay := f, arrival := a, departure := dep }
          overdue := false, overdueLong := false, firstOverdue := none, delayCued := e.cuedAfter h.call dep } ∧
        e2 = e1) ∧
      ∀ (fc : Forecast) (o : Nat), e.state ≠ .atHalt → (a : Int) ≤ n → e.forecast = some fc → e.firstOverdue = some o →
        ∃ dep1 : Nat, e.DepFrom h.call W n fc.arrival dep1 ∧
          e1 = { e with
            forecast := some { delay := f, arrival := fc.arrival, departure := dep1 }
            delayCued := e.cuedAfter h.call dep1 } ∧
          (n < fc.arrival → e2 = e1) ∧
          ((fc.arrival : Int) ≤ n →
            ∃ a' dep' : Nat, (a' : Int) = min (n + 60) 108119 ∧ e.DepFrom h.call W n a' dep' ∧
              e2 = { e with
                forecast := some { delay := f, arrival := a', departure := dep' }
                overdueLong := e.overdueLong || decide ((o : Int) + 300 ≤ n)
                delayCued := e.cuedAfter h.call dep' }))

/-- Every law that the steps keep holds of the machine right after a cold start: with the statements of the laws, none of them
can fail on a run. That the machine starts there is the model's choice (log 1). -/
def Obligations.LawsHoldAfterReset : Prop :=
  let d := State.reset.dev
  d.journal.Lawful ∧ d.tt.Lawful ∧ d.fares.Lawful ∧ d.SalesLawful ∧ d.co.Lawful ∧ d.line.Lawful ∧ d.table.Lawful ∧
    d.StopsLawful ∧ (∀ e ∈ d.table.entries, e.RangesLawful) ∧ d.ForecastsLawful ∧ d.NoticesLawful ∧ d.board.Lawful ∧
    d.board.NoTrainTwice ∧ d.BoundsLawful ∧ d.PortsLawful
end

