-- ==== Sys2Proof/Laws/State.lean ====
section
/-!
SUPPORT. The fields of the part after each plain update: what an update leaves as it was, one conjunct for each field, and
what the field it writes becomes. Each conjunct is a rewriting rule.
-/

namespace Sys2Proof.Machine

@[simp] theorem Device.setPort_frame (d : Device) (p : PortId) (x : Port) :
    (d.setPort p x).phase = d.phase ∧ (d.setPort p x).clock = d.clock ∧ (d.setPort p x).tt = d.tt ∧
    (d.setPort p x).line = d.line ∧ (d.setPort p x).table = d.table ∧ (d.setPort p x).sru = d.sru ∧
    (d.setPort p x).fares = d.fares ∧ (d.setPort p x).sale = d.sale ∧ (d.setPort p x).journal = d.journal ∧
    (d.setPort p x).notices = d.notices ∧ (d.setPort p x).board = d.board ∧ (d.setPort p x).cues = d.cues ∧
    (d.setPort p x).co = d.co ∧ (d.setPort p x).halt = d.halt ∧ (d.setPort p x).sched = d.sched :=
  ⟨rfl, rfl, rfl, rfl, rfl, rfl, rfl, rfl, rfl, rfl, rfl, rfl, rfl, rfl, rfl⟩

@[simp] theorem Device.setFlagIf_frame (d : Device) (c : Bool) (f : Flag) :
    (d.setFlagIf c f).phase = d.phase ∧ (d.setFlagIf c f).clock = d.clock ∧ (d.setFlagIf c f).tt = d.tt ∧
    (d.setFlagIf c f).line = d.line ∧ (d.setFlagIf c f).table = d.table ∧ (d.setFlagIf c f).sru = d.sru ∧
    (d.setFlagIf c f).fares = d.fares ∧ (d.setFlagIf c f).sale = d.sale ∧ (d.setFlagIf c f).journal = d.journal ∧
    (d.setFlagIf c f).notices = d.notices ∧ (d.setFlagIf c f).board = d.board ∧ (d.setFlagIf c f).cues = d.cues ∧
    (d.setFlagIf c f).co = d.co ∧ (d.setFlagIf c f).halt = d.halt ∧ (d.setFlagIf c f).sched = d.sched :=
  ⟨rfl, rfl, rfl, rfl, rfl, rfl, rfl, rfl, rfl, rfl, rfl, rfl, rfl, rfl, rfl⟩

@[simp] theorem Device.setFlag_frame (d : Device) (f : Flag) :
    (d.setFlag f).phase = d.phase ∧ (d.setFlag f).clock = d.clock ∧ (d.setFlag f).tt = d.tt ∧
    (d.setFlag f).line = d.line ∧ (d.setFlag f).table = d.table ∧ (d.setFlag f).sru = d.sru ∧
    (d.setFlag f).fares = d.fares ∧ (d.setFlag f).sale = d.sale ∧ (d.setFlag f).journal = d.journal ∧
    (d.setFlag f).notices = d.notices ∧ (d.setFlag f).board = d.board ∧ (d.setFlag f).cues = d.cues ∧
    (d.setFlag f).co = d.co ∧ (d.setFlag f).halt = d.halt ∧ (d.setFlag f).sched = d.sched :=
  ⟨rfl, rfl, rfl, rfl, rfl, rfl, rfl, rfl, rfl, rfl, rfl, rfl, rfl, rfl, rfl⟩

@[simp] theorem Device.clearFlag_frame (d : Device) (f : Flag) :
    (d.clearFlag f).phase = d.phase ∧ (d.clearFlag f).clock = d.clock ∧ (d.clearFlag f).tt = d.tt ∧
    (d.clearFlag f).line = d.line ∧ (d.clearFlag f).table = d.table ∧ (d.clearFlag f).sru = d.sru ∧
    (d.clearFlag f).fares = d.fares ∧ (d.clearFlag f).sale = d.sale ∧ (d.clearFlag f).journal = d.journal ∧
    (d.clearFlag f).notices = d.notices ∧ (d.clearFlag f).board = d.board ∧ (d.clearFlag f).cues = d.cues ∧
    (d.clearFlag f).co = d.co ∧ (d.clearFlag f).halt = d.halt ∧ (d.clearFlag f).sched = d.sched :=
  ⟨rfl, rfl, rfl, rfl, rfl, rfl, rfl, rfl, rfl, rfl, rfl, rfl, rfl, rfl, rfl⟩

@[simp] theorem Device.clockOut_frame (d : Device) (p : PortId) (bs : List Byte) :
    (d.clockOut p bs).phase = d.phase ∧ (d.clockOut p bs).clock = d.clock ∧ (d.clockOut p bs).tt = d.tt ∧
    (d.clockOut p bs).line = d.line ∧ (d.clockOut p bs).table = d.table ∧ (d.clockOut p bs).sru = d.sru ∧
    (d.clockOut p bs).fares = d.fares ∧ (d.clockOut p bs).sale = d.sale ∧ (d.clockOut p bs).journal = d.journal ∧
    (d.clockOut p bs).notices = d.notices ∧ (d.clockOut p bs).board = d.board ∧ (d.clockOut p bs).cues = d.cues ∧
    (d.clockOut p bs).co = d.co ∧ (d.clockOut p bs).halt = d.halt ∧ (d.clockOut p bs).sched = d.sched :=
  ⟨rfl, rfl, rfl, rfl, rfl, rfl, rfl, rfl, rfl, rfl, rfl, rfl, rfl, rfl, rfl⟩

@[simp] theorem Device.place_frame (d : Device) (p : PortId) (r : Response) :
    (d.place p r).phase = d.phase ∧ (d.place p r).clock = d.clock ∧ (d.place p r).tt = d.tt ∧
    (d.place p r).line = d.line ∧ (d.place p r).table = d.table ∧ (d.place p r).sru = d.sru ∧
    (d.place p r).fares = d.fares ∧ (d.place p r).sale = d.sale ∧ (d.place p r).journal = d.journal ∧
    (d.place p r).notices = d.notices ∧ (d.place p r).board = d.board ∧ (d.place p r).cues = d.cues ∧
    (d.place p r).co = d.co ∧ (d.place p r).halt = d.halt ∧ (d.place p r).sched = d.sched :=
  ⟨rfl, rfl, rfl, rfl, rfl, rfl, rfl, rfl, rfl, rfl, rfl, rfl, rfl, rfl, rfl⟩

@[simp] theorem Device.placeError_frame (d : Device) (p : PortId) (b : Byte) (st : Status) :
    (d.placeError p b st).phase = d.phase ∧ (d.placeError p b st).clock = d.clock ∧ (d.placeError p b st).tt = d.tt ∧
    (d.placeError p b st).line = d.line ∧ (d.placeError p b st).table = d.table ∧ (d.placeError p b st).sru = d.sru ∧
    (d.placeError p b st).fares = d.fares ∧ (d.placeError p b st).sale = d.sale ∧
    (d.placeError p b st).journal = d.journal ∧ (d.placeError p b st).notices = d.notices ∧
    (d.placeError p b st).board = d.board ∧ (d.placeError p b st).cues = d.cues ∧ (d.placeError p b st).co = d.co ∧
    (d.placeError p b st).halt = d.halt ∧ (d.placeError p b st).sched = d.sched :=
  ⟨rfl, rfl, rfl, rfl, rfl, rfl, rfl, rfl, rfl, rfl, rfl, rfl, rfl, rfl, rfl⟩

@[simp] theorem Device.hold_frame (d : Device) (p : PortId) (r : Response) :
    (d.hold p r).phase = d.phase ∧ (d.hold p r).clock = d.clock ∧ (d.hold p r).tt = d.tt ∧
    (d.hold p r).line = d.line ∧ (d.hold p r).table = d.table ∧ (d.hold p r).sru = d.sru ∧
    (d.hold p r).fares = d.fares ∧ (d.hold p r).sale = d.sale ∧ (d.hold p r).journal = d.journal ∧
    (d.hold p r).notices = d.notices ∧ (d.hold p r).board = d.board ∧ (d.hold p r).cues = d.cues ∧
    (d.hold p r).co = d.co ∧ (d.hold p r).halt = d.halt ∧ (d.hold p r).sched = d.sched :=
  ⟨rfl, rfl, rfl, rfl, rfl, rfl, rfl, rfl, rfl, rfl, rfl, rfl, rfl, rfl, rfl⟩

@[simp] theorem Device.setAssembly_frame (d : Device) (p : PortId) (a : Option Assembly) :
    (d.setAssembly p a).phase = d.phase ∧ (d.setAssembly p a).clock = d.clock ∧ (d.setAssembly p a).tt = d.tt ∧
    (d.setAssembly p a).line = d.line ∧ (d.setAssembly p a).table = d.table ∧ (d.setAssembly p a).sru = d.sru ∧
    (d.setAssembly p a).fares = d.fares ∧ (d.setAssembly p a).sale = d.sale ∧
    (d.setAssembly p a).journal = d.journal ∧ (d.setAssembly p a).notices = d.notices ∧
    (d.setAssembly p a).board = d.board ∧ (d.setAssembly p a).cues = d.cues ∧ (d.setAssembly p a).co = d.co ∧
    (d.setAssembly p a).halt = d.halt ∧ (d.setAssembly p a).sched = d.sched :=
  ⟨rfl, rfl, rfl, rfl, rfl, rfl, rfl, rfl, rfl, rfl, rfl, rfl, rfl, rfl, rfl⟩

@[simp] theorem Device.setClock_frame (d : Device) (c : Clock) :
    (d.setClock c).phase = d.phase ∧ (d.setClock c).tt = d.tt ∧ (d.setClock c).line = d.line ∧
    (d.setClock c).table = d.table ∧ (d.setClock c).sru = d.sru ∧ (d.setClock c).fares = d.fares ∧
    (d.setClock c).sale = d.sale ∧ (d.setClock c).journal = d.journal ∧ (d.setClock c).notices = d.notices ∧
    (d.setClock c).board = d.board ∧ (d.setClock c).cues = d.cues ∧ (d.setClock c).co = d.co ∧
    (d.setClock c).halt = d.halt ∧ (d.setClock c).ports = d.ports ∧ (d.setClock c).sched = d.sched :=
  ⟨rfl, rfl, rfl, rfl, rfl, rfl, rfl, rfl, rfl, rfl, rfl, rfl, rfl, rfl, rfl⟩

@[simp] theorem Device.setStaged_frame (d : Device) (b : TimetableBank) :
    (d.setStaged b).phase = d.phase ∧ (d.setStaged b).clock = d.clock ∧ (d.setStaged b).line = d.line ∧
    (d.setStaged b).table = d.table ∧ (d.setStaged b).sru = d.sru ∧ (d.setStaged b).fares = d.fares ∧
    (d.setStaged b).sale = d.sale ∧ (d.setStaged b).journal = d.journal ∧ (d.setStaged b).notices = d.notices ∧
    (d.setStaged b).board = d.board ∧ (d.setStaged b).cues = d.cues ∧ (d.setStaged b).co = d.co ∧
    (d.setStaged b).halt = d.halt ∧ (d.setStaged b).ports = d.ports ∧ (d.setStaged b).sched = d.sched :=
  ⟨rfl, rfl, rfl, rfl, rfl, rfl, rfl, rfl, rfl, rfl, rfl, rfl, rfl, rfl, rfl⟩

@[simp] theorem Device.setStagedFares_frame (d : Device) (b : FareBank) :
    (d.setStagedFares b).phase = d.phase ∧ (d.setStagedFares b).clock = d.clock ∧ (d.setStagedFares b).tt = d.tt ∧
    (d.setStagedFares b).line = d.line ∧ (d.setStagedFares b).table = d.table ∧ (d.setStagedFares b).sru = d.sru ∧
    (d.setStagedFares b).sale = d.sale ∧ (d.setStagedFares b).journal = d.journal ∧
    (d.setStagedFares b).notices = d.notices ∧ (d.setStagedFares b).board = d.board ∧
    (d.setStagedFares b).cues = d.cues ∧ (d.setStagedFares b).co = d.co ∧ (d.setStagedFares b).halt = d.halt ∧
    (d.setStagedFares b).ports = d.ports ∧ (d.setStagedFares b).sched = d.sched :=
  ⟨rfl, rfl, rfl, rfl, rfl, rfl, rfl, rfl, rfl, rfl, rfl, rfl, rfl, rfl, rfl⟩

@[simp] theorem Device.setBanks_frame (d : Device) (t : TimetableStore) (f : FareStore) :
    (d.setBanks t f).phase = d.phase ∧ (d.setBanks t f).clock = d.clock ∧ (d.setBanks t f).line = d.line ∧
    (d.setBanks t f).table = d.table ∧ (d.setBanks t f).sru = d.sru ∧ (d.setBanks t f).sale = d.sale ∧
    (d.setBanks t f).journal = d.journal ∧ (d.setBanks t f).notices = d.notices ∧ (d.setBanks t f).board = d.board ∧
    (d.setBanks t f).cues = d.cues ∧ (d.setBanks t f).co = d.co ∧ (d.setBanks t f).halt = d.halt ∧
    (d.setBanks t f).ports = d.ports ∧ (d.setBanks t f).sched = d.sched :=
  ⟨rfl, rfl, rfl, rfl, rfl, rfl, rfl, rfl, rfl, rfl, rfl, rfl, rfl, rfl⟩

@[simp] theorem Device.setLine_frame (d : Device) (l : Line) :
    (d.setLine l).phase = d.phase ∧ (d.setLine l).clock = d.clock ∧ (d.setLine l).tt = d.tt ∧
    (d.setLine l).table = d.table ∧ (d.setLine l).sru = d.sru ∧ (d.setLine l).fares = d.fares ∧
    (d.setLine l).sale = d.sale ∧ (d.setLine l).journal = d.journal ∧ (d.setLine l).notices = d.notices ∧
    (d.setLine l).board = d.board ∧ (d.setLine l).cues = d.cues ∧ (d.setLine l).co = d.co ∧
    (d.setLine l).halt = d.halt ∧ (d.setLine l).ports = d.ports ∧ (d.setLine l).sched = d.sched :=
  ⟨rfl, rfl, rfl, rfl, rfl, rfl, rfl, rfl, rfl, rfl, rfl, rfl, rfl, rfl, rfl⟩

@[simp] theorem Device.setLastHit_frame (d : Device) (h : Option Nat) :
    (d.setLastHit h).phase = d.phase ∧ (d.setLastHit h).clock = d.clock ∧ (d.setLastHit h).tt = d.tt ∧
    (d.setLastHit h).table = d.table ∧ (d.setLastHit h).sru = d.sru ∧ (d.setLastHit h).fares = d.fares ∧
    (d.setLastHit h).sale = d.sale ∧ (d.setLastHit h).journal = d.journal ∧ (d.setLastHit h).notices = d.notices ∧
    (d.setLastHit h).board = d.board ∧ (d.setLastHit h).cues = d.cues ∧ (d.setLastHit h).co = d.co ∧
    (d.setLastHit h).halt = d.halt ∧ (d.setLastHit h).ports = d.ports ∧ (d.setLastHit h).sched = d.sched :=
  ⟨rfl, rfl, rfl, rfl, rfl, rfl, rfl, rfl, rfl, rfl, rfl, rfl, rfl, rfl, rfl⟩

@[simp] theorem Device.setSale_frame (d : Device) (u : SaleUnit) :
    (d.setSale u).phase = d.phase ∧ (d.setSale u).clock = d.clock ∧ (d.setSale u).tt = d.tt ∧
    (d.setSale u).line = d.line ∧ (d.setSale u).table = d.table ∧ (d.setSale u).sru = d.sru ∧
    (d.setSale u).fares = d.fares ∧ (d.setSale u).journal = d.journal ∧ (d.setSale u).notices = d.notices ∧
    (d.setSale u).board = d.board ∧ (d.setSale u).cues = d.cues ∧ (d.setSale u).co = d.co ∧
    (d.setSale u).halt = d.halt ∧ (d.setSale u).ports = d.ports ∧ (d.setSale u).sched = d.sched :=
  ⟨rfl, rfl, rfl, rfl, rfl, rfl, rfl, rfl, rfl, rfl, rfl, rfl, rfl, rfl, rfl⟩

@[simp] theorem Device.setClosedFlag_frame (d : Device) (b : Bool) :
    (d.setClosedFlag b).phase = d.phase ∧ (d.setClosedFlag b).clock = d.clock ∧ (d.setClosedFlag b).tt = d.tt ∧
    (d.setClosedFlag b).line = d.line ∧ (d.setClosedFlag b).table = d.table ∧ (d.setClosedFlag b).sru = d.sru ∧
    (d.setClosedFlag b).fares = d.fares ∧ (d.setClosedFlag b).journal = d.journal ∧
    (d.setClosedFlag b).notices = d.notices ∧ (d.setClosedFlag b).board = d.board ∧
    (d.setClosedFlag b).cues = d.cues ∧ (d.setClosedFlag b).co = d.co ∧ (d.setClosedFlag b).halt = d.halt ∧
    (d.setClosedFlag b).ports = d.ports ∧ (d.setClosedFlag b).sched = d.sched :=
  ⟨rfl, rfl, rfl, rfl, rfl, rfl, rfl, rfl, rfl, rfl, rfl, rfl, rfl, rfl, rfl⟩

@[simp] theorem Device.closeQuote_frame (d : Device) (k : QuoteSlot) :
    (d.closeQuote k).phase = d.phase ∧ (d.closeQuote k).clock = d.clock ∧ (d.closeQuote k).tt = d.tt ∧
    (d.closeQuote k).line = d.line ∧ (d.closeQuote k).table = d.table ∧ (d.closeQuote k).sru = d.sru ∧
    (d.closeQuote k).fares = d.fares ∧ (d.closeQuote k).journal = d.journal ∧ (d.closeQuote k).notices = d.notices ∧
    (d.closeQuote k).board = d.board ∧ (d.closeQuote k).cues = d.cues ∧ (d.closeQuote k).co = d.co ∧
    (d.closeQuote k).halt = d.halt ∧ (d.closeQuote k).ports = d.ports ∧ (d.closeQuote k).sched = d.sched :=
  ⟨rfl, rfl, rfl, rfl, rfl, rfl, rfl, rfl, rfl, rfl, rfl, rfl, rfl, rfl, rfl⟩

@[simp] theorem Device.setLastSale_frame (d : Device) (x : LastSale) :
    (d.setLastSale x).phase = d.phase ∧ (d.setLastSale x).clock = d.clock ∧ (d.setLastSale x).tt = d.tt ∧
    (d.setLastSale x).line = d.line ∧ (d.setLastSale x).table = d.table ∧ (d.setLastSale x).sru = d.sru ∧
    (d.setLastSale x).fares = d.fares ∧ (d.setLastSale x).journal = d.journal ∧
    (d.setLastSale x).notices = d.notices ∧ (d.setLastSale x).board = d.board ∧ (d.setLastSale x).cues = d.cues ∧
    (d.setLastSale x).co = d.co ∧ (d.setLastSale x).halt = d.halt ∧ (d.setLastSale x).ports = d.ports ∧
    (d.setLastSale x).sched = d.sched :=
  ⟨rfl, rfl, rfl, rfl, rfl, rfl, rfl, rfl, rfl, rfl, rfl, rfl, rfl, rfl, rfl⟩

@[simp] theorem Device.setJournal_frame (d : Device) (j : Journal) :
    (d.setJournal j).phase = d.phase ∧ (d.setJournal j).clock = d.clock ∧ (d.setJournal j).tt = d.tt ∧
    (d.setJournal j).line = d.line ∧ (d.setJournal j).table = d.table ∧ (d.setJournal j).sru = d.sru ∧
    (d.setJournal j).fares = d.fares ∧ (d.setJournal j).sale = d.sale ∧ (d.setJournal j).notices = d.notices ∧
    (d.setJournal j).board = d.board ∧ (d.setJournal j).cues = d.cues ∧ (d.setJournal j).co = d.co ∧
    (d.setJournal j).halt = d.halt ∧ (d.setJournal j).ports = d.ports ∧ (d.setJournal j).sched = d.sched :=
  ⟨rfl, rfl, rfl, rfl, rfl, rfl, rfl, rfl, rfl, rfl, rfl, rfl, rfl, rfl, rfl⟩

@[simp] theorem Device.setNotices_frame (d : Device) (l : List Notice) :
    (d.setNotices l).phase = d.phase ∧ (d.setNotices l).clock = d.clock ∧ (d.setNotices l).tt = d.tt ∧
    (d.setNotices l).line = d.line ∧ (d.setNotices l).table = d.table ∧ (d.setNotices l).sru = d.sru ∧
    (d.setNotices l).fares = d.fares ∧ (d.setNotices l).sale = d.sale ∧ (d.setNotices l).journal = d.journal ∧
    (d.setNotices l).board = d.board ∧ (d.setNotices l).cues = d.cues ∧ (d.setNotices l).co = d.co ∧
    (d.setNotices l).halt = d.halt ∧ (d.setNotices l).ports = d.ports ∧ (d.setNotices l).sched = d.sched :=
  ⟨rfl, rfl, rfl, rfl, rfl, rfl, rfl, rfl, rfl, rfl, rfl, rfl, rfl, rfl, rfl⟩

@[simp] theorem Device.setLists_frame (d : Device) (l : List (List Member)) :
    (d.setLists l).phase = d.phase ∧ (d.setLists l).clock = d.clock ∧ (d.setLists l).tt = d.tt ∧
    (d.setLists l).line = d.line ∧ (d.setLists l).table = d.table ∧ (d.setLists l).sru = d.sru ∧
    (d.setLists l).fares = d.fares ∧ (d.setLists l).sale = d.sale ∧ (d.setLists l).journal = d.journal ∧
    (d.setLists l).notices = d.notices ∧ (d.setLists l).cues = d.cues ∧ (d.setLists l).co = d.co ∧
    (d.setLists l).halt = d.halt ∧ (d.setLists l).ports = d.ports ∧ (d.setLists l).sched = d.sched :=
  ⟨rfl, rfl, rfl, rfl, rfl, rfl, rfl, rfl, rfl, rfl, rfl, rfl, rfl, rfl, rfl⟩

@[simp] theorem Device.modifyScreen_frame (d : Device) (k : Nat) (f : Screen → Screen) :
    (d.modifyScreen k f).phase = d.phase ∧ (d.modifyScreen k f).clock = d.clock ∧ (d.modifyScreen k f).tt = d.tt ∧
    (d.modifyScreen k f).line = d.line ∧ (d.modifyScreen k f).table = d.table ∧ (d.modifyScreen k f).sru = d.sru ∧
    (d.modifyScreen k f).fares = d.fares ∧ (d.modifyScreen k f).sale = d.sale ∧
    (d.modifyScreen k f).journal = d.journal ∧ (d.modifyScreen k f).notices = d.notices ∧
    (d.modifyScreen k f).cues = d.cues ∧ (d.modifyScreen k f).co = d.co ∧ (d.modifyScreen k f).halt = d.halt ∧
    (d.modifyScreen k f).ports = d.ports ∧ (d.modifyScreen k f).sched = d.sched :=
  ⟨rfl, rfl, rfl, rfl, rfl, rfl, rfl, rfl, rfl, rfl, rfl, rfl, rfl, rfl, rfl⟩

@[simp] theorem Device.setGroupMask_frame (d : Device) (g : Nat) (m : BitVec 4) :
    (d.setGroupMask g m).phase = d.phase ∧ (d.setGroupMask g m).clock = d.clock ∧ (d.setGroupMask g m).tt = d.tt ∧
    (d.setGroupMask g m).line = d.line ∧ (d.setGroupMask g m).table = d.table ∧ (d.setGroupMask g m).sru = d.sru ∧
    (d.setGroupMask g m).fares = d.fares ∧ (d.setGroupMask g m).sale = d.sale ∧
    (d.setGroupMask g m).journal = d.journal ∧ (d.setGroupMask g m).notices = d.notices ∧
    (d.setGroupMask g m).cues = d.cues ∧ (d.setGroupMask g m).co = d.co ∧ (d.setGroupMask g m).halt = d.halt ∧
    (d.setGroupMask g m).ports = d.ports ∧ (d.setGroupMask g m).sched = d.sched :=
  ⟨rfl, rfl, rfl, rfl, rfl, rfl, rfl, rfl, rfl, rfl, rfl, rfl, rfl, rfl, rfl⟩

@[simp] theorem Device.setCo_frame (d : Device) (c : Changeover) :
    (d.setCo c).phase = d.phase ∧ (d.setCo c).clock = d.clock ∧ (d.setCo c).tt = d.tt ∧ (d.setCo c).line = d.line ∧
    (d.setCo c).table = d.table ∧ (d.setCo c).sru = d.sru ∧ (d.setCo c).fares = d.fares ∧ (d.setCo c).sale = d.sale ∧
    (d.setCo c).journal = d.journal ∧ (d.setCo c).notices = d.notices ∧ (d.setCo c).board = d.board ∧
    (d.setCo c).cues = d.cues ∧ (d.setCo c).halt = d.halt ∧ (d.setCo c).ports = d.ports ∧ (d.setCo c).sched = d.sched :=
  ⟨rfl, rfl, rfl, rfl, rfl, rfl, rfl, rfl, rfl, rfl, rfl, rfl, rfl, rfl, rfl⟩

@[simp] theorem Device.setButton_frame (d : Device) (dir : Direction) (b : Button) :
    (d.setButton dir b).phase = d.phase ∧ (d.setButton dir b).clock = d.clock ∧ (d.setButton dir b).tt = d.tt ∧
    (d.setButton dir b).line = d.line ∧ (d.setButton dir b).table = d.table ∧ (d.setButton dir b).fares = d.fares ∧
    (d.setButton dir b).sale = d.sale ∧ (d.setButton dir b).journal = d.journal ∧
    (d.setButton dir b).notices = d.notices ∧ (d.setButton dir b).board = d.board ∧
    (d.setButton dir b).cues = d.cues ∧ (d.setButton dir b).co = d.co ∧ (d.setButton dir b).halt = d.halt ∧
    (d.setButton dir b).ports = d.ports ∧ (d.setButton dir b).sched = d.sched :=
  ⟨rfl, rfl, rfl, rfl, rfl, rfl, rfl, rfl, rfl, rfl, rfl, rfl, rfl, rfl, rfl⟩

@[simp] theorem Device.setButtonState_frame (d : Device) (dir : Direction) (b : ButtonState) :
    (d.setButtonState dir b).phase = d.phase ∧ (d.setButtonState dir b).clock = d.clock ∧
    (d.setButtonState dir b).tt = d.tt ∧ (d.setButtonState dir b).line = d.line ∧
    (d.setButtonState dir b).table = d.table ∧ (d.setButtonState dir b).fares = d.fares ∧
    (d.setButtonState dir b).sale = d.sale ∧ (d.setButtonState dir b).journal = d.journal ∧
    (d.setButtonState dir b).notices = d.notices ∧ (d.setButtonState dir b).board = d.board ∧
    (d.setButtonState dir b).cues = d.cues ∧ (d.setButtonState dir b).co = d.co ∧
    (d.setButtonState dir b).halt = d.halt ∧ (d.setButtonState dir b).ports = d.ports ∧
    (d.setButtonState dir b).sched = d.sched :=
  ⟨rfl, rfl, rfl, rfl, rfl, rfl, rfl, rfl, rfl, rfl, rfl, rfl, rfl, rfl, rfl⟩

@[simp] theorem Device.refreshLamps_frame (d : Device) (t : Nat) :
    (d.refreshLamps t).phase = d.phase ∧ (d.refreshLamps t).clock = d.clock ∧ (d.refreshLamps t).tt = d.tt ∧
    (d.refreshLamps t).line = d.line ∧ (d.refreshLamps t).table = d.table ∧ (d.refreshLamps t).fares = d.fares ∧
    (d.refreshLamps t).sale = d.sale ∧ (d.refreshLamps t).journal = d.journal ∧
    (d.refreshLamps t).notices = d.notices ∧ (d.refreshLamps t).board = d.board ∧ (d.refreshLamps t).cues = d.cues ∧
    (d.refreshLamps t).co = d.co ∧ (d.refreshLamps t).halt = d.halt ∧ (d.refreshLamps t).ports = d.ports ∧
    (d.refreshLamps t).sched = d.sched :=
  ⟨rfl, rfl, rfl, rfl, rfl, rfl, rfl, rfl, rfl, rfl, rfl, rfl, rfl, rfl, rfl⟩

@[simp] theorem Device.updateEntry_frame (d : Device) (t : Nat) (f : Entry → Entry) :
    (d.updateEntry t f).phase = d.phase ∧ (d.updateEntry t f).clock = d.clock ∧ (d.updateEntry t f).tt = d.tt ∧
    (d.updateEntry t f).line = d.line ∧ (d.updateEntry t f).sru = d.sru ∧ (d.updateEntry t f).fares = d.fares ∧
    (d.updateEntry t f).sale = d.sale ∧ (d.updateEntry t f).journal = d.journal ∧
    (d.updateEntry t f).notices = d.notices ∧ (d.updateEntry t f).board = d.board ∧
    (d.updateEntry t f).cues = d.cues ∧ (d.updateEntry t f).co = d.co ∧ (d.updateEntry t f).halt = d.halt ∧
    (d.updateEntry t f).ports = d.ports ∧ (d.updateEntry t f).sched = d.sched :=
  ⟨rfl, rfl, rfl, rfl, rfl, rfl, rfl, rfl, rfl, rfl, rfl, rfl, rfl, rfl, rfl⟩

@[simp] theorem Device.deleteEntry_frame (d : Device) (t : Nat) :
    (d.deleteEntry t).phase = d.phase ∧ (d.deleteEntry t).clock = d.clock ∧ (d.deleteEntry t).tt = d.tt ∧
    (d.deleteEntry t).line = d.line ∧ (d.deleteEntry t).sru = d.sru ∧ (d.deleteEntry t).fares = d.fares ∧
    (d.deleteEntry t).sale = d.sale ∧ (d.deleteEntry t).journal = d.journal ∧ (d.deleteEntry t).notices = d.notices ∧
    (d.deleteEntry t).board = d.board ∧ (d.deleteEntry t).cues = d.cues ∧ (d.deleteEntry t).co = d.co ∧
    (d.deleteEntry t).halt = d.halt ∧ (d.deleteEntry t).ports = d.ports ∧ (d.deleteEntry t).sched = d.sched :=
  ⟨rfl, rfl, rfl, rfl, rfl, rfl, rfl, rfl, rfl, rfl, rfl, rfl, rfl, rfl, rfl⟩

@[simp] theorem Device.insertEntry_frame (d : Device) (e : Entry) :
    (d.insertEntry e).phase = d.phase ∧ (d.insertEntry e).clock = d.clock ∧ (d.insertEntry e).tt = d.tt ∧
    (d.insertEntry e).line = d.line ∧ (d.insertEntry e).sru = d.sru ∧ (d.insertEntry e).fares = d.fares ∧
    (d.insertEntry e).sale = d.sale ∧ (d.insertEntry e).journal = d.journal ∧ (d.insertEntry e).notices = d.notices ∧
    (d.insertEntry e).board = d.board ∧ (d.insertEntry e).cues = d.cues ∧ (d.insertEntry e).co = d.co ∧
    (d.insertEntry e).halt = d.halt ∧ (d.insertEntry e).ports = d.ports ∧ (d.insertEntry e).sched = d.sched :=
  ⟨rfl, rfl, rfl, rfl, rfl, rfl, rfl, rfl, rfl, rfl, rfl, rfl, rfl, rfl, rfl⟩

@[simp] theorem Device.touch_frame (d : Device) (t : Nat) :
    (d.touch t).phase = d.phase ∧ (d.touch t).clock = d.clock ∧ (d.touch t).tt = d.tt ∧ (d.touch t).line = d.line ∧
    (d.touch t).sru = d.sru ∧ (d.touch t).fares = d.fares ∧ (d.touch t).sale = d.sale ∧
    (d.touch t).journal = d.journal ∧ (d.touch t).notices = d.notices ∧ (d.touch t).board = d.board ∧
    (d.touch t).cues = d.cues ∧ (d.touch t).co = d.co ∧ (d.touch t).halt = d.halt ∧ (d.touch t).ports = d.ports ∧
    (d.touch t).sched = d.sched :=
  ⟨rfl, rfl, rfl, rfl, rfl, rfl, rfl, rfl, rfl, rfl, rfl, rfl, rfl, rfl, rfl⟩

@[simp] theorem Device.clearTableFull_frame (d : Device) :
    (d.clearTableFull).phase = d.phase ∧ (d.clearTableFull).clock = d.clock ∧ (d.clearTableFull).tt = d.tt ∧
    (d.clearTableFull).line = d.line ∧ (d.clearTableFull).sru = d.sru ∧ (d.clearTableFull).fares = d.fares ∧
    (d.clearTableFull).sale = d.sale ∧ (d.clearTableFull).journal = d.journal ∧
    (d.clearTableFull).notices = d.notices ∧ (d.clearTableFull).board = d.board ∧ (d.clearTableFull).cues = d.cues ∧
    (d.clearTableFull).co = d.co ∧ (d.clearTableFull).halt = d.halt ∧ (d.clearTableFull).ports = d.ports ∧
    (d.clearTableFull).sched = d.sched :=
  ⟨rfl, rfl, rfl, rfl, rfl, rfl, rfl, rfl, rfl, rfl, rfl, rfl, rfl, rfl, rfl⟩

@[simp] theorem Device.ageEntries_frame (d : Device) :
    (d.ageEntries).phase = d.phase ∧ (d.ageEntries).clock = d.clock ∧ (d.ageEntries).tt = d.tt ∧
    (d.ageEntries).line = d.line ∧ (d.ageEntries).sru = d.sru ∧ (d.ageEntries).fares = d.fares ∧
    (d.ageEntries).sale = d.sale ∧ (d.ageEntries).journal = d.journal ∧ (d.ageEntries).notices = d.notices ∧
    (d.ageEntries).board = d.board ∧ (d.ageEntries).cues = d.cues ∧ (d.ageEntries).co = d.co ∧
    (d.ageEntries).halt = d.halt ∧ (d.ageEntries).ports = d.ports ∧ (d.ageEntries).sched = d.sched :=
  ⟨rfl, rfl, rfl, rfl, rfl, rfl, rfl, rfl, rfl, rfl, rfl, rfl, rfl, rfl, rfl⟩

@[simp] theorem Device.clearWatches_frame (d : Device) :
    (d.clearWatches).phase = d.phase ∧ (d.clearWatches).clock = d.clock ∧ (d.clearWatches).tt = d.tt ∧
    (d.clearWatches).line = d.line ∧ (d.clearWatches).sru = d.sru ∧ (d.clearWatches).fares = d.fares ∧
    (d.clearWatches).sale = d.sale ∧ (d.clearWatches).journal = d.journal ∧ (d.clearWatches).notices = d.notices ∧
    (d.clearWatches).board = d.board ∧ (d.clearWatches).cues = d.cues ∧ (d.clearWatches).co = d.co ∧
    (d.clearWatches).halt = d.halt ∧ (d.clearWatches).ports = d.ports ∧ (d.clearWatches).sched = d.sched :=
  ⟨rfl, rfl, rfl, rfl, rfl, rfl, rfl, rfl, rfl, rfl, rfl, rfl, rfl, rfl, rfl⟩

/-! ## What the written field becomes -/

@[simp] theorem Device.setClock_clock (d : Device) (c : Clock) :
    (d.setClock c).clock = c := rfl

@[simp] theorem Device.setLine_line (d : Device) (l : Line) :
    (d.setLine l).line = l := rfl

@[simp] theorem Device.setSale_sale (d : Device) (u : SaleUnit) :
    (d.setSale u).sale = u := rfl

@[simp] theorem Device.setJournal_journal (d : Device) (j : Journal) :
    (d.setJournal j).journal = j := rfl

@[simp] theorem Device.setCo_co (d : Device) (c : Changeover) :
    (d.setCo c).co = c := rfl

@[simp] theorem Device.setBanks_tt (d : Device) (t : TimetableStore) (f : FareStore) :
    (d.setBanks t f).tt = t := rfl

@[simp] theorem Device.setBanks_fares (d : Device) (t : TimetableStore) (f : FareStore) :
    (d.setBanks t f).fares = f := rfl

@[simp] theorem Device.setStaged_tt (d : Device) (b : TimetableBank) :
    (d.setStaged b).tt = { d.tt with staged := b } := rfl

@[simp] theorem Device.setStagedFares_fares (d : Device) (b : FareBank) :
    (d.setStagedFares b).fares = { d.fares with staged := b } := rfl

@[simp] theorem Device.setNotices_notices (d : Device) (l : List Notice) :
    (d.setNotices l).notices = { d.notices with items := l } := rfl

@[simp] theorem Device.setLists_board (d : Device) (l : List (List Member)) :
    (d.setLists l).board = { d.board with lists := l } := rfl

@[simp] theorem Device.setGroupMask_board (d : Device) (g : Nat) (m : BitVec 4) :
    (d.setGroupMask g m).board = { d.board with groups := d.board.groups.set g m } := rfl

@[simp] theorem Device.modifyScreen_board (d : Device) (k : Nat) (f : Screen → Screen) :
    (d.modifyScreen k f).board = { d.board with screens := d.board.screens.modify k f } := rfl

@[simp] theorem Device.setClosedFlag_sale (d : Device) (b : Bool) :
    (d.setClosedFlag b).sale = { d.sale with closedFlag := b } := rfl

@[simp] theorem Device.closeQuote_sale (d : Device) (k : QuoteSlot) :
    (d.closeQuote k).sale = d.sale.setSlot k none := rfl

@[simp] theorem Device.setLastSale_sale (d : Device) (x : LastSale) :
    (d.setLastSale x).sale = { d.sale with lastSale := some x } := rfl

@[simp] theorem Device.setLastHit_line (d : Device) (h : Option Nat) :
    (d.setLastHit h).line = { d.line with lastHit := h } := rfl

@[simp] theorem Device.updateEntry_table (d : Device) (t : Nat) (f : Entry → Entry) :
    (d.updateEntry t f).table = { d.table with entries := d.table.entries.map (fun e => if e.train == t then f e else e) } := rfl

@[simp] theorem Device.deleteEntry_table (d : Device) (t : Nat) :
    (d.deleteEntry t).table = { d.table with entries := d.table.entries.filter (fun e => e.train != t) } := rfl

@[simp] theorem Device.clearTableFull_table (d : Device) :
    (d.clearTableFull).table = { d.table with full := false } := rfl

@[simp] theorem Device.ageEntries_table (d : Device) :
    (d.ageEntries).table = { d.table with entries := d.table.entries.map Entry.aged } := rfl

/-! ## Ports -/

@[simp] theorem Ports.set_port_same (d : Device) (p : PortId) (x : Port) : (d.setPort p x).port p = x := by
  cases p <;> rfl

theorem Ports.set_port_other (d : Device) (p q : PortId) (x : Port) (h : q ≠ p) : (d.setPort p x).port q = d.port q := by
  cases p <;> cases q <;> first | rfl | exact absurd rfl h

theorem Device.port_of_ports {a b : Device} (h : a.ports = b.ports) (p : PortId) : a.port p = b.port p := by
  cases p <;> simp [Device.port, h]

/-! ## A guarded update, field by field -/

@[simp] theorem Device.when_phase (d : Device) (c : Bool) (f : Device → Device) :
    (d.when c f).phase = if c then (f d).phase else d.phase := by
  unfold Device.when; split <;> rfl

@[simp] theorem Device.when_clock (d : Device) (c : Bool) (f : Device → Device) :
    (d.when c f).clock = if c then (f d).clock else d.clock := by
  unfold Device.when; split <;> rfl

@[simp] theorem Device.when_tt (d : Device) (c : Bool) (f : Device → Device) :
    (d.when c f).tt = if c then (f d).tt else d.tt := by
  unfold Device.when; split <;> rfl

@[simp] theorem Device.when_line (d : Device) (c : Bool) (f : Device → Device) :
    (d.when c f).line = if c then (f d).line else d.line := by
  unfold Device.when; split <;> rfl

@[simp] theorem Device.when_table (d : Device) (c : Bool) (f : Device → Device) :
    (d.when c f).table = if c then (f d).table else d.table := by
  unfold Device.when; split <;> rfl

@[simp] theorem Device.when_sru (d : Device) (c : Bool) (f : Device → Device) :
    (d.when c f).sru = if c then (f d).sru else d.sru := by
  unfold Device.when; split <;> rfl

@[simp] theorem Device.when_fares (d : Device) (c : Bool) (f : Device → Device) :
    (d.when c f).fares = if c then (f d).fares else d.fares := by
  unfold Device.when; split <;> rfl

@[simp] theorem Device.when_sale (d : Device) (c : Bool) (f : Device → Device) :
    (d.when c f).sale = if c then (f d).sale else d.sale := by
  unfold Device.when; split <;> rfl

@[simp] theorem Device.when_journal (d : Device) (c : Bool) (f : Device → Device) :
    (d.when c f).journal = if c then (f d).journal else d.journal := by
  unfold Device.when; split <;> rfl

@[simp] theorem Device.when_notices (d : Device) (c : Bool) (f : Device → Device) :
    (d.when c f).notices = if c then (f d).notices else d.notices := by
  unfold Device.when; split <;> rfl

@[simp] theorem Device.when_board (d : Device) (c : Bool) (f : Device → Device) :
    (d.when c f).board = if c then (f d).board else d.board := by
  unfold Device.when; split <;> rfl

@[simp] theorem Device.when_cues (d : Device) (c : Bool) (f : Device → Device) :
    (d.when c f).cues = if c then (f d).cues else d.cues := by
  unfold Device.when; split <;> rfl

@[simp] theorem Device.when_co (d : Device) (c : Bool) (f : Device → Device) :
    (d.when c f).co = if c then (f d).co else d.co := by
  unfold Device.when; split <;> rfl

@[simp] theorem Device.when_halt (d : Device) (c : Bool) (f : Device → Device) :
    (d.when c f).halt = if c then (f d).halt else d.halt := by
  unfold Device.when; split <;> rfl

@[simp] theorem Device.when_ports (d : Device) (c : Bool) (f : Device → Device) :
    (d.when c f).ports = if c then (f d).ports else d.ports := by
  unfold Device.when; split <;> rfl

@[simp] theorem Device.when_sched (d : Device) (c : Bool) (f : Device → Device) :
    (d.when c f).sched = if c then (f d).sched else d.sched := by
  unfold Device.when; split <;> rfl

/-! ## A choice of two, part by part -/

@[simp] theorem Board.ite_screens (c : Prop) [Decidable c] (a b : Board) :
    (if c then a else b).screens = if c then a.screens else b.screens := apply_ite Board.screens c a b

@[simp] theorem Board.ite_groups (c : Prop) [Decidable c] (a b : Board) :
    (if c then a else b).groups = if c then a.groups else b.groups := apply_ite Board.groups c a b

@[simp] theorem Board.ite_lists (c : Prop) [Decidable c] (a b : Board) :
    (if c then a else b).lists = if c then a.lists else b.lists := apply_ite Board.lists c a b

@[simp] theorem Board.ite_finished (c : Prop) [Decidable c] (a b : Board) :
    (if c then a else b).finished = if c then a.finished else b.finished := apply_ite Board.finished c a b

@[simp] theorem SaleUnit.ite_slotA (c : Prop) [Decidable c] (a b : SaleUnit) :
    (if c then a else b).slotA = if c then a.slotA else b.slotA := apply_ite SaleUnit.slotA c a b

@[simp] theorem SaleUnit.ite_slotB (c : Prop) [Decidable c] (a b : SaleUnit) :
    (if c then a else b).slotB = if c then a.slotB else b.slotB := apply_ite SaleUnit.slotB c a b

@[simp] theorem SaleUnit.ite_nextQuote (c : Prop) [Decidable c] (a b : SaleUnit) :
    (if c then a else b).nextQuote = if c then a.nextQuote else b.nextQuote := apply_ite SaleUnit.nextQuote c a b

@[simp] theorem SaleUnit.ite_lastSale (c : Prop) [Decidable c] (a b : SaleUnit) :
    (if c then a else b).lastSale = if c then a.lastSale else b.lastSale := apply_ite SaleUnit.lastSale c a b

@[simp] theorem SaleUnit.ite_closedFlag (c : Prop) [Decidable c] (a b : SaleUnit) :
    (if c then a else b).closedFlag = if c then a.closedFlag else b.closedFlag := apply_ite SaleUnit.closedFlag c a b

@[simp] theorem SaleUnit.ite_state (c : Prop) [Decidable c] (a b : SaleUnit) :
    (if c then a else b).state = if c then a.state else b.state := apply_ite SaleUnit.state c a b

@[simp] theorem RunningTable.ite_entries (c : Prop) [Decidable c] (a b : RunningTable) :
    (if c then a else b).entries = if c then a.entries else b.entries := apply_ite RunningTable.entries c a b

@[simp] theorem RunningTable.ite_full (c : Prop) [Decidable c] (a b : RunningTable) :
    (if c then a else b).full = if c then a.full else b.full := apply_ite RunningTable.full c a b

@[simp] theorem NoticeStore.ite_items (c : Prop) [Decidable c] (a b : NoticeStore) :
    (if c then a else b).items = if c then a.items else b.items := apply_ite NoticeStore.items c a b

end Sys2Proof.Machine
end

