-- ==== Sys2Proof/Laws/Order.lean ====
section
/-!
SUPPORT. The free order choices: `permute` gives a permutation, and what every single action of `forAll` keeps, the whole
keeps, whatever order is chosen.
-/

namespace Sys2Proof.Machine

/-- The chosen order is a permutation of the list (log 6). -/
theorem permute_perm {α : Type} (k : Nat) (l : List α) : (permute k l).Perm l := by
  induction l generalizing k with
  | nil => exact List.Perm.refl _
  | cons x xs ih =>
    simp only [permute]
    refine List.perm_middle.trans (List.Perm.cons x ?_)
    rw [List.take_append_drop]
    exact ih _

theorem mem_permute {α : Type} {k : Nat} {l : List α} {x : α} : x ∈ permute k l ↔ x ∈ l :=
  (permute_perm k l).mem_iff

/-- What holds before `forAll` and is kept by the choice of order and by every single action holds after it. -/
theorem Device.forAll_induction {α : Type} {P : Device → Prop} {l : List α} {f : α → Device → Device} {d : Device}
    (h0 : P d) (hs : ∀ d k, P d → P { d with sched := k }) (hf : ∀ x ∈ l, ∀ d, P d → P (f x d)) : P (d.forAll l f) := by
  have key : ∀ (xs : List α) (d : Device), (∀ x ∈ xs, x ∈ l) → P d → P (xs.foldl (fun d x => f x d) d) := by
    intro xs
    induction xs with
    | nil => exact fun _ _ h => h
    | cons x xs ih =>
      intro d hx hd
      exact ih _ (fun y hy => hx y (List.mem_cons_of_mem _ hy)) (hf x (hx x List.mem_cons_self) d hd)
  exact key _ _ (fun x hx => mem_permute.1 hx) (hs _ _ h0)

/-- A free choice uses up one digit of the store of choices and changes nothing else. -/
@[simp] theorem Device.freeChoice_snd (d : Device) : d.freeChoice.2 = { d with sched := d.sched / 2 } := rfl

/-- A part of the device that every single action keeps, and that is not the store of choices, `forAll` keeps. -/
theorem Device.forAll_keep {α β : Type} (g : Device → β) {l : List α} {f : α → Device → Device} (d : Device)
    (hs : ∀ d k, g { d with sched := k } = g d) (hf : ∀ x ∈ l, ∀ d, g (f x d) = g d) : g (d.forAll l f) = g d :=
  Device.forAll_induction (P := fun e => g e = g d) rfl (fun _ _ h => (hs _ _).trans h) (fun x hx _ h => (hf x hx _).trans h)

/-- `forAll` over a list of actions, each of which keeps a part of the device. -/
theorem Device.forAll_actions_keep {β : Type} (g : Device → β) {l : List (Device → Device)} (d : Device)
    (hs : ∀ d k, g { d with sched := k } = g d) (hf : ∀ f ∈ l, ∀ d, g (f d) = g d) : g (d.forAll l (fun f d => f d)) = g d :=
  Device.forAll_keep g d hs hf

end Sys2Proof.Machine
end

