-- ==== Sys2Proof/Laws/Blocks.lean ====
section
/-!
SUPPORT. What the shared operations of the blocks leave as it was: for each operation one lemma with a conjunct for each
part of the device it does not change. `ports.quiet` stands for the ports but for their notify sets.
-/

namespace Sys2Proof.Machine

/-! ## Notify flags leave the ports alone but for their notify sets -/

@[simp] theorem Device.setFlagIf_quiet (d : Device) (c : Bool) (f : Flag) : (d.setFlagIf c f).ports.quiet = d.ports.quiet := by
  cases f <;> rfl

@[simp] theorem Device.setFlag_quiet (d : Device) (f : Flag) : (d.setFlag f).ports.quiet = d.ports.quiet := by
  cases f <;> rfl

@[simp] theorem Device.clearFlag_quiet (d : Device) (f : Flag) : (d.clearFlag f).ports.quiet = d.ports.quiet := by
  cases f <;> rfl

@[simp] theorem Ports.ite_quiet (c : Prop) [Decidable c] (a b : Ports) :
    (if c then a else b).quiet = if c then a.quiet else b.quiet := apply_ite Ports.quiet c a b

@[simp] theorem Device.updateEntry_full (d : Device) (t : Nat) (f : Entry → Entry) :
    (d.updateEntry t f).table.full = d.table.full := rfl

/-! ## Cues -/

@[simp] theorem Device.offerCue_frame (d : Device) (c : Cue) :
    (d.offerCue c).phase = d.phase ∧ (d.offerCue c).clock = d.clock ∧ (d.offerCue c).tt = d.tt ∧
    (d.offerCue c).line = d.line ∧ (d.offerCue c).table = d.table ∧ (d.offerCue c).sru = d.sru ∧
    (d.offerCue c).fares = d.fares ∧ (d.offerCue c).sale = d.sale ∧ (d.offerCue c).journal = d.journal ∧
    (d.offerCue c).notices = d.notices ∧ (d.offerCue c).board = d.board ∧ (d.offerCue c).co = d.co ∧
    (d.offerCue c).halt = d.halt ∧ (d.offerCue c).sched = d.sched ∧ (d.offerCue c).ports.quiet = d.ports.quiet := by
  simp [Device.offerCue]

@[simp] theorem Device.trainCue_frame (d : Device) (k : CueKind) (t : Nat) (p : Option Nat) (n : Nat) :
    (d.trainCue k t p n).phase = d.phase ∧ (d.trainCue k t p n).clock = d.clock ∧ (d.trainCue k t p n).tt = d.tt ∧
    (d.trainCue k t p n).line = d.line ∧ (d.trainCue k t p n).table = d.table ∧ (d.trainCue k t p n).sru = d.sru ∧
    (d.trainCue k t p n).fares = d.fares ∧ (d.trainCue k t p n).sale = d.sale ∧
    (d.trainCue k t p n).journal = d.journal ∧ (d.trainCue k t p n).notices = d.notices ∧
    (d.trainCue k t p n).board = d.board ∧ (d.trainCue k t p n).co = d.co ∧ (d.trainCue k t p n).halt = d.halt ∧
    (d.trainCue k t p n).sched = d.sched ∧ (d.trainCue k t p n).ports.quiet = d.ports.quiet := by
  simp [Device.trainCue]

@[simp] theorem Device.noticeCue_frame (d : Device) (n : Notice) :
    (d.noticeCue n).phase = d.phase ∧ (d.noticeCue n).clock = d.clock ∧ (d.noticeCue n).tt = d.tt ∧
    (d.noticeCue n).line = d.line ∧ (d.noticeCue n).table = d.table ∧ (d.noticeCue n).sru = d.sru ∧
    (d.noticeCue n).fares = d.fares ∧ (d.noticeCue n).sale = d.sale ∧ (d.noticeCue n).journal = d.journal ∧
    (d.noticeCue n).notices = d.notices ∧ (d.noticeCue n).board = d.board ∧ (d.noticeCue n).co = d.co ∧
    (d.noticeCue n).halt = d.halt ∧ (d.noticeCue n).sched = d.sched ∧ (d.noticeCue n).ports.quiet = d.ports.quiet := by
  simp [Device.noticeCue]

/-! ## Boards -/

@[simp] theorem Device.recompose_frame (d : Device) :
    (d.recompose).phase = d.phase ∧ (d.recompose).clock = d.clock ∧ (d.recompose).tt = d.tt ∧
    (d.recompose).line = d.line ∧ (d.recompose).table = d.table ∧ (d.recompose).sru = d.sru ∧
    (d.recompose).fares = d.fares ∧ (d.recompose).sale = d.sale ∧ (d.recompose).journal = d.journal ∧
    (d.recompose).notices = d.notices ∧ (d.recompose).cues = d.cues ∧ (d.recompose).co = d.co ∧
    (d.recompose).halt = d.halt ∧ (d.recompose).sched = d.sched ∧ (d.recompose).board.groups = d.board.groups ∧
    (d.recompose).board.finished = d.board.finished ∧ (d.recompose).board.lists = d.board.lists ∧
    (d.recompose).ports.quiet = d.ports.quiet := by
  simp [Device.recompose]

@[simp] theorem Device.recomposeOne_frame (d : Device) (k : Nat) :
    (d.recomposeOne k).phase = d.phase ∧ (d.recomposeOne k).clock = d.clock ∧ (d.recomposeOne k).tt = d.tt ∧
    (d.recomposeOne k).line = d.line ∧ (d.recomposeOne k).table = d.table ∧ (d.recomposeOne k).sru = d.sru ∧
    (d.recomposeOne k).fares = d.fares ∧ (d.recomposeOne k).sale = d.sale ∧ (d.recomposeOne k).journal = d.journal ∧
    (d.recomposeOne k).notices = d.notices ∧ (d.recomposeOne k).cues = d.cues ∧ (d.recomposeOne k).co = d.co ∧
    (d.recomposeOne k).halt = d.halt ∧ (d.recomposeOne k).sched = d.sched ∧
    (d.recomposeOne k).board.groups = d.board.groups ∧ (d.recomposeOne k).board.finished = d.board.finished ∧
    (d.recomposeOne k).board.lists = d.board.lists ∧ (d.recomposeOne k).ports.quiet = d.ports.quiet := by
  simp [Device.recomposeOne]

@[simp] theorem Device.recomposeFor_frame (d : Device) (t : Nat) :
    (d.recomposeFor t).phase = d.phase ∧ (d.recomposeFor t).clock = d.clock ∧ (d.recomposeFor t).tt = d.tt ∧
    (d.recomposeFor t).line = d.line ∧ (d.recomposeFor t).table = d.table ∧ (d.recomposeFor t).sru = d.sru ∧
    (d.recomposeFor t).fares = d.fares ∧ (d.recomposeFor t).sale = d.sale ∧ (d.recomposeFor t).journal = d.journal ∧
    (d.recomposeFor t).notices = d.notices ∧ (d.recomposeFor t).cues = d.cues ∧ (d.recomposeFor t).co = d.co ∧
    (d.recomposeFor t).halt = d.halt ∧ (d.recomposeFor t).sched = d.sched ∧
    (d.recomposeFor t).board.groups = d.board.groups ∧ (d.recomposeFor t).board.finished = d.board.finished ∧
    (d.recomposeFor t).board.lists = d.board.lists ∧ (d.recomposeFor t).ports.quiet = d.ports.quiet := by
  simp [Device.recomposeFor]

@[simp] theorem Device.rebuildAll_frame (d : Device) :
    (d.rebuildAll).phase = d.phase ∧ (d.rebuildAll).clock = d.clock ∧ (d.rebuildAll).tt = d.tt ∧
    (d.rebuildAll).line = d.line ∧ (d.rebuildAll).table = d.table ∧ (d.rebuildAll).sru = d.sru ∧
    (d.rebuildAll).fares = d.fares ∧ (d.rebuildAll).sale = d.sale ∧ (d.rebuildAll).journal = d.journal ∧
    (d.rebuildAll).notices = d.notices ∧ (d.rebuildAll).cues = d.cues ∧ (d.rebuildAll).co = d.co ∧
    (d.rebuildAll).halt = d.halt ∧ (d.rebuildAll).sched = d.sched ∧ (d.rebuildAll).board.groups = d.board.groups ∧
    (d.rebuildAll).board.finished = d.board.finished ∧ (d.rebuildAll).ports.quiet = d.ports.quiet := by
  simp [Device.rebuildAll]

@[simp] theorem Device.boardMinute_frame (d : Device) :
    (d.boardMinute).phase = d.phase ∧ (d.boardMinute).clock = d.clock ∧ (d.boardMinute).tt = d.tt ∧
    (d.boardMinute).line = d.line ∧ (d.boardMinute).table = d.table ∧ (d.boardMinute).sru = d.sru ∧
    (d.boardMinute).fares = d.fares ∧ (d.boardMinute).sale = d.sale ∧ (d.boardMinute).journal = d.journal ∧
    (d.boardMinute).notices = d.notices ∧ (d.boardMinute).cues = d.cues ∧ (d.boardMinute).co = d.co ∧
    (d.boardMinute).halt = d.halt ∧ (d.boardMinute).sched = d.sched ∧ (d.boardMinute).board.groups = d.board.groups ∧
    (d.boardMinute).board.finished = d.board.finished ∧ (d.boardMinute).ports.quiet = d.ports.quiet := by
  simp [Device.boardMinute]

@[simp] theorem Device.boardDay_frame (d : Device) :
    (d.boardDay).phase = d.phase ∧ (d.boardDay).clock = d.clock ∧ (d.boardDay).tt = d.tt ∧
    (d.boardDay).line = d.line ∧ (d.boardDay).table = d.table ∧ (d.boardDay).sru = d.sru ∧
    (d.boardDay).fares = d.fares ∧ (d.boardDay).sale = d.sale ∧ (d.boardDay).journal = d.journal ∧
    (d.boardDay).notices = d.notices ∧ (d.boardDay).cues = d.cues ∧ (d.boardDay).co = d.co ∧
    (d.boardDay).halt = d.halt ∧ (d.boardDay).sched = d.sched ∧ (d.boardDay).board.groups = d.board.groups ∧
    (d.boardDay).ports.quiet = d.ports.quiet := by
  simp [Device.boardDay]

@[simp] theorem Device.boardNotice_frame (d : Device) (n : EntryNotice) :
    (d.boardNotice n).phase = d.phase ∧ (d.boardNotice n).clock = d.clock ∧ (d.boardNotice n).tt = d.tt ∧
    (d.boardNotice n).line = d.line ∧ (d.boardNotice n).table = d.table ∧ (d.boardNotice n).sru = d.sru ∧
    (d.boardNotice n).fares = d.fares ∧ (d.boardNotice n).sale = d.sale ∧ (d.boardNotice n).journal = d.journal ∧
    (d.boardNotice n).notices = d.notices ∧ (d.boardNotice n).cues = d.cues ∧ (d.boardNotice n).co = d.co ∧
    (d.boardNotice n).halt = d.halt ∧ (d.boardNotice n).sched = d.sched ∧
    (d.boardNotice n).board.groups = d.board.groups ∧ (d.boardNotice n).ports.quiet = d.ports.quiet := by
  simp only [Device.boardNotice]
  split <;> simp

/-! ## Notices and sales -/

@[simp] theorem Device.setSn1_frame (d : Device) (b : Bool) :
    (d.setSn1 b).phase = d.phase ∧ (d.setSn1 b).clock = d.clock ∧ (d.setSn1 b).tt = d.tt ∧
    (d.setSn1 b).line = d.line ∧ (d.setSn1 b).table = d.table ∧ (d.setSn1 b).sru = d.sru ∧
    (d.setSn1 b).fares = d.fares ∧ (d.setSn1 b).sale = d.sale ∧ (d.setSn1 b).journal = d.journal ∧
    (d.setSn1 b).cues = d.cues ∧ (d.setSn1 b).co = d.co ∧ (d.setSn1 b).halt = d.halt ∧ (d.setSn1 b).sched = d.sched ∧
    (d.setSn1 b).board.groups = d.board.groups ∧ (d.setSn1 b).board.finished = d.board.finished ∧
    (d.setSn1 b).board.lists = d.board.lists ∧ (d.setSn1 b).ports.quiet = d.ports.quiet := by
  simp [Device.setSn1]

@[simp] theorem Device.setSn2_frame (d : Device) (b : Bool) :
    (d.setSn2 b).phase = d.phase ∧ (d.setSn2 b).clock = d.clock ∧ (d.setSn2 b).tt = d.tt ∧
    (d.setSn2 b).line = d.line ∧ (d.setSn2 b).table = d.table ∧ (d.setSn2 b).sru = d.sru ∧
    (d.setSn2 b).fares = d.fares ∧ (d.setSn2 b).sale = d.sale ∧ (d.setSn2 b).journal = d.journal ∧
    (d.setSn2 b).cues = d.cues ∧ (d.setSn2 b).co = d.co ∧ (d.setSn2 b).halt = d.halt ∧ (d.setSn2 b).sched = d.sched ∧
    (d.setSn2 b).board.groups = d.board.groups ∧ (d.setSn2 b).board.finished = d.board.finished ∧
    (d.setSn2 b).board.lists = d.board.lists ∧ (d.setSn2 b).ports.quiet = d.ports.quiet := by
  simp [Device.setSn2]

@[simp] theorem Device.setSn3_frame (d : Device) (b : Bool) :
    (d.setSn3 b).phase = d.phase ∧ (d.setSn3 b).clock = d.clock ∧ (d.setSn3 b).tt = d.tt ∧
    (d.setSn3 b).line = d.line ∧ (d.setSn3 b).table = d.table ∧ (d.setSn3 b).sru = d.sru ∧
    (d.setSn3 b).fares = d.fares ∧ (d.setSn3 b).sale = d.sale ∧ (d.setSn3 b).journal = d.journal ∧
    (d.setSn3 b).cues = d.cues ∧ (d.setSn3 b).co = d.co ∧ (d.setSn3 b).halt = d.halt ∧ (d.setSn3 b).sched = d.sched ∧
    (d.setSn3 b).board.groups = d.board.groups ∧ (d.setSn3 b).board.finished = d.board.finished ∧
    (d.setSn3 b).board.lists = d.board.lists ∧ (d.setSn3 b).ports.quiet = d.ports.quiet := by
  simp [Device.setSn3]

@[simp] theorem Device.setShown_frame (d : Device) (n : Notice) (b : Bool) :
    (d.setShown n b).phase = d.phase ∧ (d.setShown n b).clock = d.clock ∧ (d.setShown n b).tt = d.tt ∧
    (d.setShown n b).line = d.line ∧ (d.setShown n b).table = d.table ∧ (d.setShown n b).sru = d.sru ∧
    (d.setShown n b).fares = d.fares ∧ (d.setShown n b).sale = d.sale ∧ (d.setShown n b).journal = d.journal ∧
    (d.setShown n b).co = d.co ∧ (d.setShown n b).halt = d.halt ∧ (d.setShown n b).sched = d.sched ∧
    (d.setShown n b).board.groups = d.board.groups ∧ (d.setShown n b).board.finished = d.board.finished ∧
    (d.setShown n b).board.lists = d.board.lists ∧ (d.setShown n b).ports.quiet = d.ports.quiet := by
  unfold Device.setShown
  split <;> simp

@[simp] theorem Device.showCanned_frame (d : Device) (k : Nat) (b : Bool) :
    (d.showCanned k b).phase = d.phase ∧ (d.showCanned k b).clock = d.clock ∧ (d.showCanned k b).tt = d.tt ∧
    (d.showCanned k b).line = d.line ∧ (d.showCanned k b).table = d.table ∧ (d.showCanned k b).sru = d.sru ∧
    (d.showCanned k b).fares = d.fares ∧ (d.showCanned k b).sale = d.sale ∧ (d.showCanned k b).journal = d.journal ∧
    (d.showCanned k b).co = d.co ∧ (d.showCanned k b).halt = d.halt ∧ (d.showCanned k b).sched = d.sched ∧
    (d.showCanned k b).board.groups = d.board.groups ∧ (d.showCanned k b).board.finished = d.board.finished ∧
    (d.showCanned k b).board.lists = d.board.lists ∧ (d.showCanned k b).ports.quiet = d.ports.quiet := by
  unfold Device.showCanned
  split <;> (try split) <;> simp

@[simp] theorem Device.storeNotice_frame (d : Device) (n : Notice) :
    (d.storeNotice n).phase = d.phase ∧ (d.storeNotice n).clock = d.clock ∧ (d.storeNotice n).tt = d.tt ∧
    (d.storeNotice n).line = d.line ∧ (d.storeNotice n).table = d.table ∧ (d.storeNotice n).sru = d.sru ∧
    (d.storeNotice n).fares = d.fares ∧ (d.storeNotice n).sale = d.sale ∧ (d.storeNotice n).journal = d.journal ∧
    (d.storeNotice n).co = d.co ∧ (d.storeNotice n).halt = d.halt ∧ (d.storeNotice n).sched = d.sched ∧
    (d.storeNotice n).board.groups = d.board.groups ∧ (d.storeNotice n).board.finished = d.board.finished ∧
    (d.storeNotice n).board.lists = d.board.lists ∧ (d.storeNotice n).ports.quiet = d.ports.quiet := by
  simp [Device.storeNotice]

@[simp] theorem Device.evalSales_frame (d : Device) :
    (d.evalSales).phase = d.phase ∧ (d.evalSales).clock = d.clock ∧ (d.evalSales).tt = d.tt ∧
    (d.evalSales).line = d.line ∧ (d.evalSales).table = d.table ∧ (d.evalSales).sru = d.sru ∧
    (d.evalSales).fares = d.fares ∧ (d.evalSales).journal = d.journal ∧ (d.evalSales).cues = d.cues ∧
    (d.evalSales).co = d.co ∧ (d.evalSales).halt = d.halt ∧ (d.evalSales).sched = d.sched ∧
    (d.evalSales).sale.slotA = d.sale.slotA ∧ (d.evalSales).sale.slotB = d.sale.slotB ∧
    (d.evalSales).sale.nextQuote = d.sale.nextQuote ∧ (d.evalSales).sale.lastSale = d.sale.lastSale ∧
    (d.evalSales).sale.closedFlag = d.sale.closedFlag ∧ (d.evalSales).board.groups = d.board.groups ∧
    (d.evalSales).board.finished = d.board.finished ∧ (d.evalSales).board.lists = d.board.lists ∧
    (d.evalSales).ports.quiet = d.ports.quiet := by
  simp [Device.evalSales]

@[simp] theorem Device.markJournal_frame (d : Device) :
    (d.markJournal).phase = d.phase ∧ (d.markJournal).clock = d.clock ∧ (d.markJournal).tt = d.tt ∧
    (d.markJournal).line = d.line ∧ (d.markJournal).table = d.table ∧ (d.markJournal).sru = d.sru ∧
    (d.markJournal).fares = d.fares ∧ (d.markJournal).sale = d.sale ∧ (d.markJournal).journal = d.journal ∧
    (d.markJournal).notices = d.notices ∧ (d.markJournal).board = d.board ∧ (d.markJournal).cues = d.cues ∧
    (d.markJournal).co = d.co ∧ (d.markJournal).halt = d.halt ∧ (d.markJournal).sched = d.sched ∧
    (d.markJournal).ports.quiet = d.ports.quiet := by
  simp [Device.markJournal]

@[simp] theorem Device.appendRecord_frame (d : Device) (s : Nat) (b : RecordBody) :
    (d.appendRecord s b).phase = d.phase ∧ (d.appendRecord s b).clock = d.clock ∧ (d.appendRecord s b).tt = d.tt ∧
    (d.appendRecord s b).line = d.line ∧ (d.appendRecord s b).table = d.table ∧ (d.appendRecord s b).sru = d.sru ∧
    (d.appendRecord s b).fares = d.fares ∧ (d.appendRecord s b).cues = d.cues ∧ (d.appendRecord s b).co = d.co ∧
    (d.appendRecord s b).halt = d.halt ∧ (d.appendRecord s b).sched = d.sched ∧
    (d.appendRecord s b).sale.slotA = d.sale.slotA ∧ (d.appendRecord s b).sale.slotB = d.sale.slotB ∧
    (d.appendRecord s b).sale.nextQuote = d.sale.nextQuote ∧ (d.appendRecord s b).sale.lastSale = d.sale.lastSale ∧
    (d.appendRecord s b).sale.closedFlag = d.sale.closedFlag ∧ (d.appendRecord s b).board.groups = d.board.groups ∧
    (d.appendRecord s b).board.finished = d.board.finished ∧ (d.appendRecord s b).board.lists = d.board.lists ∧
    (d.appendRecord s b).ports.quiet = d.ports.quiet := by
  simp [Device.appendRecord]

@[simp] theorem Device.closeExpired_frame (d : Device) :
    (d.closeExpired).phase = d.phase ∧ (d.closeExpired).clock = d.clock ∧ (d.closeExpired).tt = d.tt ∧
    (d.closeExpired).line = d.line ∧ (d.closeExpired).table = d.table ∧ (d.closeExpired).sru = d.sru ∧
    (d.closeExpired).fares = d.fares ∧ (d.closeExpired).journal = d.journal ∧ (d.closeExpired).notices = d.notices ∧
    (d.closeExpired).board = d.board ∧ (d.closeExpired).cues = d.cues ∧ (d.closeExpired).co = d.co ∧
    (d.closeExpired).halt = d.halt ∧ (d.closeExpired).sched = d.sched ∧
    (d.closeExpired).sale.nextQuote = d.sale.nextQuote ∧ (d.closeExpired).sale.lastSale = d.sale.lastSale ∧
    (d.closeExpired).sale.closedFlag = d.sale.closedFlag ∧ (d.closeExpired).ports.quiet = d.ports.quiet := by
  simp [Device.closeExpired]

@[simp] theorem Device.noticeMinute_frame (d : Device) :
    (d.noticeMinute).phase = d.phase ∧ (d.noticeMinute).clock = d.clock ∧ (d.noticeMinute).tt = d.tt ∧
    (d.noticeMinute).line = d.line ∧ (d.noticeMinute).table = d.table ∧ (d.noticeMinute).sru = d.sru ∧
    (d.noticeMinute).fares = d.fares ∧ (d.noticeMinute).sale = d.sale ∧ (d.noticeMinute).journal = d.journal ∧
    (d.noticeMinute).co = d.co ∧ (d.noticeMinute).halt = d.halt ∧ (d.noticeMinute).board.groups = d.board.groups ∧
    (d.noticeMinute).board.finished = d.board.finished ∧ (d.noticeMinute).board.lists = d.board.lists ∧
    (d.noticeMinute).ports.quiet = d.ports.quiet := by
  unfold Device.noticeMinute
  exact Device.forAll_induction (P := fun e =>
      e.phase = d.phase ∧ e.clock = d.clock ∧ e.tt = d.tt ∧ e.line = d.line ∧ e.table = d.table ∧ e.sru = d.sru ∧
      e.fares = d.fares ∧ e.sale = d.sale ∧ e.journal = d.journal ∧ e.co = d.co ∧ e.halt = d.halt ∧
      e.board.groups = d.board.groups ∧ e.board.finished = d.board.finished ∧ e.board.lists = d.board.lists ∧
      e.ports.quiet = d.ports.quiet)
    (by simp) (fun _ _ h => h) (fun x _ e h => by simpa using h)

/-! ## Forecasts -/

@[simp] theorem Device.recomputeTrain_frame (d : Device) (tick : Bool) (t : Nat) :
    (d.recomputeTrain tick t).phase = d.phase ∧ (d.recomputeTrain tick t).clock = d.clock ∧
    (d.recomputeTrain tick t).tt = d.tt ∧ (d.recomputeTrain tick t).line = d.line ∧
    (d.recomputeTrain tick t).sru = d.sru ∧ (d.recomputeTrain tick t).fares = d.fares ∧
    (d.recomputeTrain tick t).sale = d.sale ∧ (d.recomputeTrain tick t).journal = d.journal ∧
    (d.recomputeTrain tick t).notices = d.notices ∧ (d.recomputeTrain tick t).co = d.co ∧
    (d.recomputeTrain tick t).halt = d.halt ∧ (d.recomputeTrain tick t).sched = d.sched ∧
    (d.recomputeTrain tick t).board.groups = d.board.groups ∧
    (d.recomputeTrain tick t).board.finished = d.board.finished ∧
    (d.recomputeTrain tick t).board.lists = d.board.lists ∧ (d.recomputeTrain tick t).ports.quiet = d.ports.quiet := by
  unfold Device.recomputeTrain
  split <;> (try split) <;> simp

@[simp] theorem Device.recomputeEvery_frame (d : Device) (tick : Bool) :
    (d.recomputeEvery tick).phase = d.phase ∧ (d.recomputeEvery tick).clock = d.clock ∧
    (d.recomputeEvery tick).tt = d.tt ∧ (d.recomputeEvery tick).line = d.line ∧ (d.recomputeEvery tick).sru = d.sru ∧
    (d.recomputeEvery tick).fares = d.fares ∧ (d.recomputeEvery tick).sale = d.sale ∧
    (d.recomputeEvery tick).journal = d.journal ∧ (d.recomputeEvery tick).notices = d.notices ∧
    (d.recomputeEvery tick).co = d.co ∧ (d.recomputeEvery tick).halt = d.halt ∧
    (d.recomputeEvery tick).board.groups = d.board.groups ∧
    (d.recomputeEvery tick).board.finished = d.board.finished ∧ (d.recomputeEvery tick).board.lists = d.board.lists ∧
    (d.recomputeEvery tick).ports.quiet = d.ports.quiet := by
  unfold Device.recomputeEvery
  exact Device.forAll_induction (P := fun e =>
      e.phase = d.phase ∧ e.clock = d.clock ∧ e.tt = d.tt ∧ e.line = d.line ∧ e.sru = d.sru ∧ e.fares = d.fares ∧
      e.sale = d.sale ∧ e.journal = d.journal ∧ e.notices = d.notices ∧ e.co = d.co ∧ e.halt = d.halt ∧
      e.board.groups = d.board.groups ∧ e.board.finished = d.board.finished ∧ e.board.lists = d.board.lists ∧
      e.ports.quiet = d.ports.quiet)
    (by simp) (fun _ _ h => h) (fun x _ e h => by simpa using h)

@[simp] theorem Device.forecastNotice_frame (d : Device) (n : EntryNotice) :
    (d.forecastNotice n).phase = d.phase ∧ (d.forecastNotice n).clock = d.clock ∧ (d.forecastNotice n).tt = d.tt ∧
    (d.forecastNotice n).line = d.line ∧ (d.forecastNotice n).sru = d.sru ∧ (d.forecastNotice n).fares = d.fares ∧
    (d.forecastNotice n).sale = d.sale ∧ (d.forecastNotice n).journal = d.journal ∧
    (d.forecastNotice n).notices = d.notices ∧ (d.forecastNotice n).co = d.co ∧ (d.forecastNotice n).halt = d.halt ∧
    (d.forecastNotice n).sched = d.sched ∧ (d.forecastNotice n).board.groups = d.board.groups ∧
    (d.forecastNotice n).board.finished = d.board.finished ∧ (d.forecastNotice n).board.lists = d.board.lists ∧
    (d.forecastNotice n).ports.quiet = d.ports.quiet := by
  unfold Device.forecastNotice
  split <;> simp

@[simp] theorem Device.forecastMinute_frame (d : Device) :
    (d.forecastMinute).phase = d.phase ∧ (d.forecastMinute).clock = d.clock ∧ (d.forecastMinute).tt = d.tt ∧
    (d.forecastMinute).line = d.line ∧ (d.forecastMinute).sru = d.sru ∧ (d.forecastMinute).fares = d.fares ∧
    (d.forecastMinute).sale = d.sale ∧ (d.forecastMinute).journal = d.journal ∧
    (d.forecastMinute).notices = d.notices ∧ (d.forecastMinute).co = d.co ∧ (d.forecastMinute).halt = d.halt ∧
    (d.forecastMinute).board.groups = d.board.groups ∧ (d.forecastMinute).board.finished = d.board.finished ∧
    (d.forecastMinute).board.lists = d.board.lists ∧ (d.forecastMinute).ports.quiet = d.ports.quiet := by
  simp [Device.forecastMinute]

/-! ## Stop requests -/

@[simp] theorem Device.stopNotice_frame (d : Device) (t : Nat) (a b : StopState) (w : Bool) :
    (d.stopNotice t a b w).phase = d.phase ∧ (d.stopNotice t a b w).clock = d.clock ∧
    (d.stopNotice t a b w).tt = d.tt ∧ (d.stopNotice t a b w).line = d.line ∧
    (d.stopNotice t a b w).table = d.table ∧ (d.stopNotice t a b w).fares = d.fares ∧
    (d.stopNotice t a b w).sale = d.sale ∧ (d.stopNotice t a b w).journal = d.journal ∧
    (d.stopNotice t a b w).notices = d.notices ∧ (d.stopNotice t a b w).cues = d.cues ∧
    (d.stopNotice t a b w).co = d.co ∧ (d.stopNotice t a b w).halt = d.halt ∧
    (d.stopNotice t a b w).sched = d.sched ∧ (d.stopNotice t a b w).board.groups = d.board.groups ∧
    (d.stopNotice t a b w).board.finished = d.board.finished ∧ (d.stopNotice t a b w).board.lists = d.board.lists ∧
    (d.stopNotice t a b w).ports.quiet = d.ports.quiet := by
  simp [Device.stopNotice]

@[simp] theorem Device.setStop_frame (d : Device) (t : Nat) (x : StopState) :
    (d.setStop t x).phase = d.phase ∧ (d.setStop t x).clock = d.clock ∧ (d.setStop t x).tt = d.tt ∧
    (d.setStop t x).line = d.line ∧ (d.setStop t x).fares = d.fares ∧ (d.setStop t x).sale = d.sale ∧
    (d.setStop t x).journal = d.journal ∧ (d.setStop t x).notices = d.notices ∧ (d.setStop t x).cues = d.cues ∧
    (d.setStop t x).co = d.co ∧ (d.setStop t x).halt = d.halt ∧ (d.setStop t x).sched = d.sched ∧
    (d.setStop t x).board.groups = d.board.groups ∧ (d.setStop t x).board.finished = d.board.finished ∧
    (d.setStop t x).board.lists = d.board.lists ∧ (d.setStop t x).ports.quiet = d.ports.quiet := by
  unfold Device.setStop
  split <;> (try split) <;> simp

@[simp] theorem Device.selection_frame (d : Device) :
    (d.selection).phase = d.phase ∧ (d.selection).clock = d.clock ∧ (d.selection).tt = d.tt ∧
    (d.selection).table = d.table ∧ (d.selection).sru = d.sru ∧ (d.selection).fares = d.fares ∧
    (d.selection).sale = d.sale ∧ (d.selection).journal = d.journal ∧ (d.selection).notices = d.notices ∧
    (d.selection).board = d.board ∧ (d.selection).cues = d.cues ∧ (d.selection).co = d.co ∧
    (d.selection).halt = d.halt ∧ (d.selection).ports = d.ports ∧ (d.selection).sched = d.sched := by
  simp [Device.selection]

@[simp] theorem Device.withdrawFrame_frame (d : Device) (t : Nat) :
    (d.withdrawFrame t).phase = d.phase ∧ (d.withdrawFrame t).clock = d.clock ∧ (d.withdrawFrame t).tt = d.tt ∧
    (d.withdrawFrame t).table = d.table ∧ (d.withdrawFrame t).sru = d.sru ∧ (d.withdrawFrame t).fares = d.fares ∧
    (d.withdrawFrame t).sale = d.sale ∧ (d.withdrawFrame t).journal = d.journal ∧
    (d.withdrawFrame t).notices = d.notices ∧ (d.withdrawFrame t).board = d.board ∧
    (d.withdrawFrame t).cues = d.cues ∧ (d.withdrawFrame t).co = d.co ∧ (d.withdrawFrame t).halt = d.halt ∧
    (d.withdrawFrame t).ports = d.ports ∧ (d.withdrawFrame t).sched = d.sched := by
  simp [Device.withdrawFrame]

@[simp] theorem Device.selectIfEligible_frame (d : Device) (t : Nat) :
    (d.selectIfEligible t).phase = d.phase ∧ (d.selectIfEligible t).clock = d.clock ∧
    (d.selectIfEligible t).tt = d.tt ∧ (d.selectIfEligible t).table = d.table ∧ (d.selectIfEligible t).sru = d.sru ∧
    (d.selectIfEligible t).fares = d.fares ∧ (d.selectIfEligible t).sale = d.sale ∧
    (d.selectIfEligible t).journal = d.journal ∧ (d.selectIfEligible t).notices = d.notices ∧
    (d.selectIfEligible t).board = d.board ∧ (d.selectIfEligible t).cues = d.cues ∧
    (d.selectIfEligible t).co = d.co ∧ (d.selectIfEligible t).halt = d.halt ∧
    (d.selectIfEligible t).ports = d.ports ∧ (d.selectIfEligible t).sched = d.sched := by
  simp [Device.selectIfEligible]

@[simp] theorem Device.addToRequest_frame (d : Device) (t n : Nat) (w : Bool) :
    (d.addToRequest t n w).phase = d.phase ∧ (d.addToRequest t n w).clock = d.clock ∧
    (d.addToRequest t n w).tt = d.tt ∧ (d.addToRequest t n w).fares = d.fares ∧
    (d.addToRequest t n w).sale = d.sale ∧ (d.addToRequest t n w).journal = d.journal ∧
    (d.addToRequest t n w).notices = d.notices ∧ (d.addToRequest t n w).cues = d.cues ∧
    (d.addToRequest t n w).co = d.co ∧ (d.addToRequest t n w).halt = d.halt ∧
    (d.addToRequest t n w).sched = d.sched ∧ (d.addToRequest t n w).board.groups = d.board.groups ∧
    (d.addToRequest t n w).board.finished = d.board.finished ∧ (d.addToRequest t n w).board.lists = d.board.lists ∧
    (d.addToRequest t n w).ports.quiet = d.ports.quiet := by
  simp [Device.addToRequest]

@[simp] theorem Device.voidFromRequest_frame (d : Device) (t n : Nat) :
    (d.voidFromRequest t n).phase = d.phase ∧ (d.voidFromRequest t n).clock = d.clock ∧
    (d.voidFromRequest t n).tt = d.tt ∧ (d.voidFromRequest t n).fares = d.fares ∧
    (d.voidFromRequest t n).sale = d.sale ∧ (d.voidFromRequest t n).journal = d.journal ∧
    (d.voidFromRequest t n).notices = d.notices ∧ (d.voidFromRequest t n).cues = d.cues ∧
    (d.voidFromRequest t n).co = d.co ∧ (d.voidFromRequest t n).halt = d.halt ∧
    (d.voidFromRequest t n).sched = d.sched ∧ (d.voidFromRequest t n).board.groups = d.board.groups ∧
    (d.voidFromRequest t n).board.finished = d.board.finished ∧ (d.voidFromRequest t n).board.lists = d.board.lists ∧
    (d.voidFromRequest t n).ports.quiet = d.ports.quiet := by
  unfold Device.voidFromRequest
  split <;> simp

@[simp] theorem Device.cutoffAt_frame (d : Device) (n : EntryNotice) (e : Entry) (c : CallRec) :
    (d.cutoffAt n e c).phase = d.phase ∧ (d.cutoffAt n e c).clock = d.clock ∧ (d.cutoffAt n e c).tt = d.tt ∧
    (d.cutoffAt n e c).fares = d.fares ∧ (d.cutoffAt n e c).sale = d.sale ∧ (d.cutoffAt n e c).journal = d.journal ∧
    (d.cutoffAt n e c).notices = d.notices ∧ (d.cutoffAt n e c).co = d.co ∧ (d.cutoffAt n e c).halt = d.halt ∧
    (d.cutoffAt n e c).sched = d.sched ∧ (d.cutoffAt n e c).board.groups = d.board.groups ∧
    (d.cutoffAt n e c).board.finished = d.board.finished ∧ (d.cutoffAt n e c).board.lists = d.board.lists ∧
    (d.cutoffAt n e c).ports.quiet = d.ports.quiet := by
  unfold Device.cutoffAt
  split <;> simp

@[simp] theorem Device.stopReport_frame (d : Device) (n : EntryNotice) :
    (d.stopReport n).phase = d.phase ∧ (d.stopReport n).clock = d.clock ∧ (d.stopReport n).tt = d.tt ∧
    (d.stopReport n).fares = d.fares ∧ (d.stopReport n).sale = d.sale ∧ (d.stopReport n).journal = d.journal ∧
    (d.stopReport n).notices = d.notices ∧ (d.stopReport n).co = d.co ∧ (d.stopReport n).halt = d.halt ∧
    (d.stopReport n).sched = d.sched ∧ (d.stopReport n).board.groups = d.board.groups ∧
    (d.stopReport n).board.finished = d.board.finished ∧ (d.stopReport n).board.lists = d.board.lists ∧
    (d.stopReport n).ports.quiet = d.ports.quiet := by
  unfold Device.stopReport
  split <;> simp

@[simp] theorem Device.stopCancel_frame (d : Device) (t : Nat) :
    (d.stopCancel t).phase = d.phase ∧ (d.stopCancel t).clock = d.clock ∧ (d.stopCancel t).tt = d.tt ∧
    (d.stopCancel t).fares = d.fares ∧ (d.stopCancel t).sale = d.sale ∧ (d.stopCancel t).journal = d.journal ∧
    (d.stopCancel t).notices = d.notices ∧ (d.stopCancel t).cues = d.cues ∧ (d.stopCancel t).co = d.co ∧
    (d.stopCancel t).halt = d.halt ∧ (d.stopCancel t).sched = d.sched ∧
    (d.stopCancel t).board.groups = d.board.groups ∧ (d.stopCancel t).board.finished = d.board.finished ∧
    (d.stopCancel t).board.lists = d.board.lists ∧ (d.stopCancel t).ports.quiet = d.ports.quiet := by
  simp [Device.stopCancel]

@[simp] theorem Device.stopReinstate_frame (d : Device) (t : Nat) :
    (d.stopReinstate t).phase = d.phase ∧ (d.stopReinstate t).clock = d.clock ∧ (d.stopReinstate t).tt = d.tt ∧
    (d.stopReinstate t).fares = d.fares ∧ (d.stopReinstate t).sale = d.sale ∧
    (d.stopReinstate t).journal = d.journal ∧ (d.stopReinstate t).notices = d.notices ∧
    (d.stopReinstate t).cues = d.cues ∧ (d.stopReinstate t).co = d.co ∧ (d.stopReinstate t).halt = d.halt ∧
    (d.stopReinstate t).sched = d.sched ∧ (d.stopReinstate t).board.groups = d.board.groups ∧
    (d.stopReinstate t).board.finished = d.board.finished ∧ (d.stopReinstate t).board.lists = d.board.lists ∧
    (d.stopReinstate t).ports.quiet = d.ports.quiet := by
  simp [Device.stopReinstate]

@[simp] theorem Device.stopRemoved_frame (d : Device) (t : Nat) :
    (d.stopRemoved t).phase = d.phase ∧ (d.stopRemoved t).clock = d.clock ∧ (d.stopRemoved t).tt = d.tt ∧
    (d.stopRemoved t).table = d.table ∧ (d.stopRemoved t).fares = d.fares ∧ (d.stopRemoved t).sale = d.sale ∧
    (d.stopRemoved t).journal = d.journal ∧ (d.stopRemoved t).notices = d.notices ∧
    (d.stopRemoved t).board = d.board ∧ (d.stopRemoved t).cues = d.cues ∧ (d.stopRemoved t).co = d.co ∧
    (d.stopRemoved t).halt = d.halt ∧ (d.stopRemoved t).ports = d.ports ∧ (d.stopRemoved t).sched = d.sched := by
  simp [Device.stopRemoved]

@[simp] theorem Device.stopUnitNotice_frame (d : Device) (n : EntryNotice) :
    (d.stopUnitNotice n).phase = d.phase ∧ (d.stopUnitNotice n).clock = d.clock ∧ (d.stopUnitNotice n).tt = d.tt ∧
    (d.stopUnitNotice n).fares = d.fares ∧ (d.stopUnitNotice n).sale = d.sale ∧
    (d.stopUnitNotice n).journal = d.journal ∧ (d.stopUnitNotice n).notices = d.notices ∧
    (d.stopUnitNotice n).co = d.co ∧ (d.stopUnitNotice n).halt = d.halt ∧ (d.stopUnitNotice n).sched = d.sched ∧
    (d.stopUnitNotice n).board.groups = d.board.groups ∧ (d.stopUnitNotice n).board.finished = d.board.finished ∧
    (d.stopUnitNotice n).board.lists = d.board.lists ∧ (d.stopUnitNotice n).ports.quiet = d.ports.quiet := by
  unfold Device.stopUnitNotice
  split <;> simp

@[simp] theorem Device.takeAcknowledged_frame (d : Device) (t : Nat) :
    (d.takeAcknowledged t).phase = d.phase ∧ (d.takeAcknowledged t).clock = d.clock ∧
    (d.takeAcknowledged t).tt = d.tt ∧ (d.takeAcknowledged t).fares = d.fares ∧
    (d.takeAcknowledged t).sale = d.sale ∧ (d.takeAcknowledged t).journal = d.journal ∧
    (d.takeAcknowledged t).notices = d.notices ∧ (d.takeAcknowledged t).cues = d.cues ∧
    (d.takeAcknowledged t).co = d.co ∧ (d.takeAcknowledged t).halt = d.halt ∧
    (d.takeAcknowledged t).sched = d.sched ∧ (d.takeAcknowledged t).board.groups = d.board.groups ∧
    (d.takeAcknowledged t).board.finished = d.board.finished ∧ (d.takeAcknowledged t).board.lists = d.board.lists ∧
    (d.takeAcknowledged t).ports.quiet = d.ports.quiet := by
  simp [Device.takeAcknowledged]

@[simp] theorem Device.takeStopAck_frame (d : Device) (t : Nat) :
    (d.takeStopAck t).phase = d.phase ∧ (d.takeStopAck t).clock = d.clock ∧ (d.takeStopAck t).tt = d.tt ∧
    (d.takeStopAck t).fares = d.fares ∧ (d.takeStopAck t).sale = d.sale ∧ (d.takeStopAck t).journal = d.journal ∧
    (d.takeStopAck t).notices = d.notices ∧ (d.takeStopAck t).cues = d.cues ∧ (d.takeStopAck t).co = d.co ∧
    (d.takeStopAck t).halt = d.halt ∧ (d.takeStopAck t).sched = d.sched ∧
    (d.takeStopAck t).board.groups = d.board.groups ∧ (d.takeStopAck t).board.finished = d.board.finished ∧
    (d.takeStopAck t).board.lists = d.board.lists ∧ (d.takeStopAck t).ports.quiet = d.ports.quiet := by
  unfold Device.takeStopAck
  split <;> (try split) <;> simp

@[simp] theorem Device.stopLineState_frame (d : Device) (x : LineState) :
    (d.stopLineState x).phase = d.phase ∧ (d.stopLineState x).clock = d.clock ∧ (d.stopLineState x).tt = d.tt ∧
    (d.stopLineState x).table = d.table ∧ (d.stopLineState x).sru = d.sru ∧ (d.stopLineState x).fares = d.fares ∧
    (d.stopLineState x).sale = d.sale ∧ (d.stopLineState x).journal = d.journal ∧
    (d.stopLineState x).notices = d.notices ∧ (d.stopLineState x).board = d.board ∧
    (d.stopLineState x).cues = d.cues ∧ (d.stopLineState x).co = d.co ∧ (d.stopLineState x).halt = d.halt ∧
    (d.stopLineState x).ports = d.ports ∧ (d.stopLineState x).sched = d.sched := by
  simp [Device.stopLineState]

@[simp] theorem Device.lineBack_frame (d : Device) :
    (d.lineBack).phase = d.phase ∧ (d.lineBack).clock = d.clock ∧ (d.lineBack).tt = d.tt ∧
    (d.lineBack).table = d.table ∧ (d.lineBack).sru = d.sru ∧ (d.lineBack).fares = d.fares ∧
    (d.lineBack).sale = d.sale ∧ (d.lineBack).journal = d.journal ∧ (d.lineBack).cues = d.cues ∧
    (d.lineBack).co = d.co ∧ (d.lineBack).halt = d.halt ∧ (d.lineBack).sched = d.sched ∧
    (d.lineBack).board.groups = d.board.groups ∧ (d.lineBack).board.finished = d.board.finished ∧
    (d.lineBack).board.lists = d.board.lists ∧ (d.lineBack).line = { d.line with state := .up } ∧
    (d.lineBack).ports.quiet = d.ports.quiet := by
  simp [Device.lineBack]

@[simp] theorem Device.setLineState_frame (d : Device) (x : LineState) :
    (d.setLineState x).phase = d.phase ∧ (d.setLineState x).clock = d.clock ∧ (d.setLineState x).tt = d.tt ∧
    (d.setLineState x).table = d.table ∧ (d.setLineState x).sru = d.sru ∧ (d.setLineState x).fares = d.fares ∧
    (d.setLineState x).sale = d.sale ∧ (d.setLineState x).journal = d.journal ∧ (d.setLineState x).cues = d.cues ∧
    (d.setLineState x).co = d.co ∧ (d.setLineState x).halt = d.halt ∧
    (d.setLineState x).board.groups = d.board.groups ∧ (d.setLineState x).board.finished = d.board.finished ∧
    (d.setLineState x).board.lists = d.board.lists ∧ (d.setLineState x).ports.quiet = d.ports.quiet := by
  unfold Device.setLineState
  split
  · simp
  · exact Device.forAll_induction (P := fun e =>
      e.phase = d.phase ∧ e.clock = d.clock ∧ e.tt = d.tt ∧ e.table = d.table ∧ e.sru = d.sru ∧ e.fares = d.fares ∧
      e.sale = d.sale ∧ e.journal = d.journal ∧ e.cues = d.cues ∧ e.co = d.co ∧ e.halt = d.halt ∧
      e.board.groups = d.board.groups ∧ e.board.finished = d.board.finished ∧ e.board.lists = d.board.lists ∧
      e.ports.quiet = d.ports.quiet)
      (by simp) (fun _ _ h => h) (fun f hf e h => by
        simp only [List.mem_cons, List.not_mem_nil, or_false] at hf
        rcases hf with rfl | rfl <;> simpa using h)

/-- All that a return of the line can do with the change beside it: the line is up already and the change alone is taken, or the
line is down and the selection of its return comes before or after the change (R38, R44, R47, R100). -/
theorem Device.returnLine_cases (f : Device → Device) (d : Device) :
    (d.line.state = .up ∧ d.returnLine f = f d) ∨
      (d.line.state = .down ∧ (d.returnLine f = f (Device.setLineState .up { d with sched := d.sched / 2 }) ∨
        d.returnLine f = (f (Device.lineBack { d with sched := d.sched / 2 })).selection)) := by
  unfold Device.returnLine
  split
  · exact .inl ⟨‹_›, rfl⟩
  · refine .inr ⟨by cases h : d.line.state <;> simp_all, ?_⟩
    dsimp only
    split
    · exact .inr rfl
    · exact .inl rfl

@[simp] theorem Device.countFailure_frame (d : Device) :
    (d.countFailure).phase = d.phase ∧ (d.countFailure).clock = d.clock ∧ (d.countFailure).tt = d.tt ∧
    (d.countFailure).table = d.table ∧ (d.countFailure).sru = d.sru ∧ (d.countFailure).fares = d.fares ∧
    (d.countFailure).sale = d.sale ∧ (d.countFailure).journal = d.journal ∧ (d.countFailure).cues = d.cues ∧
    (d.countFailure).co = d.co ∧ (d.countFailure).halt = d.halt ∧ (d.countFailure).board.groups = d.board.groups ∧
    (d.countFailure).board.finished = d.board.finished ∧ (d.countFailure).board.lists = d.board.lists ∧
    (d.countFailure).ports.quiet = d.ports.quiet := by
  simp [Device.countFailure]

/-! ## Change-over -/

@[simp] theorem Device.lastCallTest_frame (d : Device) :
    (d.lastCallTest).phase = d.phase ∧ (d.lastCallTest).clock = d.clock ∧ (d.lastCallTest).tt = d.tt ∧
    (d.lastCallTest).line = d.line ∧ (d.lastCallTest).table = d.table ∧ (d.lastCallTest).sru = d.sru ∧
    (d.lastCallTest).fares = d.fares ∧ (d.lastCallTest).sale = d.sale ∧ (d.lastCallTest).journal = d.journal ∧
    (d.lastCallTest).notices = d.notices ∧ (d.lastCallTest).board = d.board ∧ (d.lastCallTest).cues = d.cues ∧
    (d.lastCallTest).halt = d.halt ∧ (d.lastCallTest).ports = d.ports ∧ (d.lastCallTest).sched = d.sched := by
  unfold Device.lastCallTest
  split <;> simp

@[simp] theorem Device.dayTrigger_frame (d : Device) :
    (d.dayTrigger).phase = d.phase ∧ (d.dayTrigger).clock = d.clock ∧ (d.dayTrigger).tt = d.tt ∧
    (d.dayTrigger).line = d.line ∧ (d.dayTrigger).table = d.table ∧ (d.dayTrigger).sru = d.sru ∧
    (d.dayTrigger).fares = d.fares ∧ (d.dayTrigger).sale = d.sale ∧ (d.dayTrigger).journal = d.journal ∧
    (d.dayTrigger).notices = d.notices ∧ (d.dayTrigger).board = d.board ∧ (d.dayTrigger).cues = d.cues ∧
    (d.dayTrigger).halt = d.halt ∧ (d.dayTrigger).ports = d.ports ∧ (d.dayTrigger).sched = d.sched := by
  simp [Device.dayTrigger]

@[simp] theorem Device.applyHandedOn_frame (d : Device) (a b : Bool) :
    (d.applyHandedOn a b).phase = d.phase ∧ (d.applyHandedOn a b).clock = d.clock ∧ (d.applyHandedOn a b).tt = d.tt ∧
    (d.applyHandedOn a b).line = d.line ∧ (d.applyHandedOn a b).table = d.table ∧ (d.applyHandedOn a b).sru = d.sru ∧
    (d.applyHandedOn a b).fares = d.fares ∧ (d.applyHandedOn a b).journal = d.journal ∧
    (d.applyHandedOn a b).cues = d.cues ∧ (d.applyHandedOn a b).halt = d.halt ∧
    (d.applyHandedOn a b).sale.slotA = d.sale.slotA ∧ (d.applyHandedOn a b).sale.slotB = d.sale.slotB ∧
    (d.applyHandedOn a b).sale.nextQuote = d.sale.nextQuote ∧ (d.applyHandedOn a b).sale.lastSale = d.sale.lastSale ∧
    (d.applyHandedOn a b).sale.closedFlag = d.sale.closedFlag ∧ (d.applyHandedOn a b).board.groups = d.board.groups ∧
    (d.applyHandedOn a b).board.finished = d.board.finished ∧ (d.applyHandedOn a b).ports.quiet = d.ports.quiet := by
  unfold Device.applyHandedOn
  exact Device.forAll_induction (P := fun e =>
      e.phase = d.phase ∧ e.clock = d.clock ∧ e.tt = d.tt ∧ e.line = d.line ∧ e.table = d.table ∧ e.sru = d.sru ∧
      e.fares = d.fares ∧ e.journal = d.journal ∧ e.cues = d.cues ∧ e.halt = d.halt ∧ e.sale.slotA = d.sale.slotA ∧
      e.sale.slotB = d.sale.slotB ∧ e.sale.nextQuote = d.sale.nextQuote ∧ e.sale.lastSale = d.sale.lastSale ∧
      e.sale.closedFlag = d.sale.closedFlag ∧ e.board.groups = d.board.groups ∧ e.board.finished = d.board.finished ∧
      e.ports.quiet = d.ports.quiet)
    (by simp) (fun _ _ h => h) (fun f hf e h => by
      simp only [List.mem_cons, List.not_mem_nil, or_false] at hf
      rcases hf with rfl | rfl | rfl <;> simpa using h)

@[simp] theorem Device.runApply_frame (d : Device) (c : Trigger) :
    (d.runApply c).phase = d.phase ∧ (d.runApply c).clock = d.clock ∧ (d.runApply c).line = d.line ∧
    (d.runApply c).table = d.table ∧ (d.runApply c).sru = d.sru ∧ (d.runApply c).journal = d.journal ∧
    (d.runApply c).cues = d.cues ∧ (d.runApply c).halt = d.halt ∧
    (d.runApply c).sale.slotA = d.sale.slotA ∧ (d.runApply c).sale.slotB = d.sale.slotB ∧
    (d.runApply c).sale.nextQuote = d.sale.nextQuote ∧ (d.runApply c).sale.lastSale = d.sale.lastSale ∧
    (d.runApply c).sale.closedFlag = d.sale.closedFlag ∧ (d.runApply c).board.groups = d.board.groups ∧
    (d.runApply c).board.finished = d.board.finished ∧ (d.runApply c).ports.quiet = d.ports.quiet := by
  simp [Device.runApply]

@[simp] theorem Device.delayExpiry_frame (d : Device) :
    (d.delayExpiry).phase = d.phase ∧ (d.delayExpiry).clock = d.clock ∧ (d.delayExpiry).line = d.line ∧
    (d.delayExpiry).table = d.table ∧ (d.delayExpiry).sru = d.sru ∧ (d.delayExpiry).journal = d.journal ∧
    (d.delayExpiry).cues = d.cues ∧ (d.delayExpiry).halt = d.halt ∧
    (d.delayExpiry).sale.slotA = d.sale.slotA ∧ (d.delayExpiry).sale.slotB = d.sale.slotB ∧
    (d.delayExpiry).sale.nextQuote = d.sale.nextQuote ∧ (d.delayExpiry).sale.lastSale = d.sale.lastSale ∧
    (d.delayExpiry).sale.closedFlag = d.sale.closedFlag ∧ (d.delayExpiry).board.groups = d.board.groups ∧
    (d.delayExpiry).board.finished = d.board.finished ∧ (d.delayExpiry).ports.quiet = d.ports.quiet := by
  unfold Device.delayExpiry
  split
  · split
    · simp
    · split <;> simp
  · simp

/-! ## Running table -/

@[simp] theorem Device.cueNotice_frame (d : Device) (n : EntryNotice) :
    (d.cueNotice n).phase = d.phase ∧ (d.cueNotice n).clock = d.clock ∧ (d.cueNotice n).tt = d.tt ∧
    (d.cueNotice n).line = d.line ∧ (d.cueNotice n).table = d.table ∧ (d.cueNotice n).sru = d.sru ∧
    (d.cueNotice n).fares = d.fares ∧ (d.cueNotice n).sale = d.sale ∧ (d.cueNotice n).journal = d.journal ∧
    (d.cueNotice n).notices = d.notices ∧ (d.cueNotice n).board = d.board ∧ (d.cueNotice n).co = d.co ∧
    (d.cueNotice n).halt = d.halt ∧ (d.cueNotice n).sched = d.sched ∧ (d.cueNotice n).ports.quiet = d.ports.quiet := by
  unfold Device.cueNotice
  split <;> simp

@[simp] theorem Device.deliver_frame (d : Device) (n : EntryNotice) :
    (d.deliver n).phase = d.phase ∧ (d.deliver n).clock = d.clock ∧ (d.deliver n).tt = d.tt ∧
    (d.deliver n).fares = d.fares ∧ (d.deliver n).sale = d.sale ∧ (d.deliver n).journal = d.journal ∧
    (d.deliver n).notices = d.notices ∧ (d.deliver n).halt = d.halt ∧ (d.deliver n).board.groups = d.board.groups ∧
    (d.deliver n).ports.quiet = d.ports.quiet := by
  unfold Device.deliver
  exact Device.forAll_induction (P := fun e =>
      e.phase = d.phase ∧ e.clock = d.clock ∧ e.tt = d.tt ∧ e.fares = d.fares ∧ e.sale = d.sale ∧
      e.journal = d.journal ∧ e.notices = d.notices ∧ e.halt = d.halt ∧ e.board.groups = d.board.groups ∧
      e.ports.quiet = d.ports.quiet)
    (by simp) (fun _ _ h => h) (fun f hf e h => by
      simp only [List.mem_cons, List.not_mem_nil, or_false] at hf
      rcases hf with rfl | rfl | rfl | rfl | rfl <;> simpa using h)

@[simp] theorem Device.removeTrain_frame (d : Device) (t : Nat) :
    (d.removeTrain t).phase = d.phase ∧ (d.removeTrain t).clock = d.clock ∧ (d.removeTrain t).tt = d.tt ∧
    (d.removeTrain t).fares = d.fares ∧ (d.removeTrain t).sale = d.sale ∧ (d.removeTrain t).journal = d.journal ∧
    (d.removeTrain t).notices = d.notices ∧ (d.removeTrain t).halt = d.halt ∧
    (d.removeTrain t).board.groups = d.board.groups ∧ (d.removeTrain t).ports.quiet = d.ports.quiet := by
  unfold Device.removeTrain
  split <;> simp

@[simp] theorem Device.setTableFull_frame (d : Device) :
    (d.setTableFull).phase = d.phase ∧ (d.setTableFull).clock = d.clock ∧ (d.setTableFull).tt = d.tt ∧
    (d.setTableFull).line = d.line ∧ (d.setTableFull).sru = d.sru ∧ (d.setTableFull).fares = d.fares ∧
    (d.setTableFull).sale = d.sale ∧ (d.setTableFull).journal = d.journal ∧ (d.setTableFull).notices = d.notices ∧
    (d.setTableFull).board = d.board ∧ (d.setTableFull).cues = d.cues ∧ (d.setTableFull).co = d.co ∧
    (d.setTableFull).halt = d.halt ∧ (d.setTableFull).sched = d.sched ∧ (d.setTableFull).ports.quiet = d.ports.quiet := by
  simp [Device.setTableFull]

end Sys2Proof.Machine
end

