-- ==== Sys2Proof/Laws/Events.lean ====
section
/-!
SUPPORT. What the events and the commands leave as it was: for each operation of the running table, the line, the clock, the
ports and the commands' bodies, one lemma with a conjunct for each part of the device it does not change.
-/

namespace Sys2Proof.Machine

/-! ## Running table -/

@[simp] theorem Device.makeEntry_frame (d : Device) (e : Entry) :
    (d.makeEntry e).2.phase = d.phase ∧ (d.makeEntry e).2.clock = d.clock ∧ (d.makeEntry e).2.tt = d.tt ∧
    (d.makeEntry e).2.fares = d.fares ∧ (d.makeEntry e).2.sale = d.sale ∧ (d.makeEntry e).2.journal = d.journal ∧
    (d.makeEntry e).2.notices = d.notices ∧ (d.makeEntry e).2.halt = d.halt ∧
    (d.makeEntry e).2.board.groups = d.board.groups ∧ (d.makeEntry e).2.ports.quiet = d.ports.quiet := by
  unfold Device.makeEntry
  (repeat' split) <;> simp

@[simp] theorem Device.enterTrain_frame (d : Device) (t : Nat) (b : Bool) :
    (d.enterTrain t b).2.phase = d.phase ∧ (d.enterTrain t b).2.clock = d.clock ∧ (d.enterTrain t b).2.tt = d.tt ∧
    (d.enterTrain t b).2.fares = d.fares ∧ (d.enterTrain t b).2.sale = d.sale ∧
    (d.enterTrain t b).2.journal = d.journal ∧ (d.enterTrain t b).2.notices = d.notices ∧
    (d.enterTrain t b).2.halt = d.halt ∧ (d.enterTrain t b).2.board.groups = d.board.groups ∧
    (d.enterTrain t b).2.ports.quiet = d.ports.quiet := by
  unfold Device.enterTrain
  (repeat' split) <;> simp

@[simp] theorem Device.askEnter_frame (d : Device) (t : Nat) :
    (d.askEnter t).2.phase = d.phase ∧ (d.askEnter t).2.clock = d.clock ∧ (d.askEnter t).2.tt = d.tt ∧
    (d.askEnter t).2.fares = d.fares ∧ (d.askEnter t).2.sale = d.sale ∧ (d.askEnter t).2.journal = d.journal ∧
    (d.askEnter t).2.notices = d.notices ∧ (d.askEnter t).2.halt = d.halt ∧
    (d.askEnter t).2.board.groups = d.board.groups ∧ (d.askEnter t).2.ports.quiet = d.ports.quiet := by
  unfold Device.askEnter
  split <;> simp

@[simp] theorem Device.ensureEntry_frame (d : Device) (t : Nat) :
    (d.ensureEntry t).phase = d.phase ∧ (d.ensureEntry t).clock = d.clock ∧ (d.ensureEntry t).tt = d.tt ∧
    (d.ensureEntry t).fares = d.fares ∧ (d.ensureEntry t).sale = d.sale ∧ (d.ensureEntry t).journal = d.journal ∧
    (d.ensureEntry t).notices = d.notices ∧ (d.ensureEntry t).halt = d.halt ∧
    (d.ensureEntry t).board.groups = d.board.groups ∧ (d.ensureEntry t).ports.quiet = d.ports.quiet := by
  unfold Device.ensureEntry
  split <;> simp

@[simp] theorem Device.runReport_frame (d : Device) (t pt : Nat) (ev s x : Nat) :
    (d.runReport t pt ev s x).phase = d.phase ∧ (d.runReport t pt ev s x).clock = d.clock ∧
    (d.runReport t pt ev s x).tt = d.tt ∧ (d.runReport t pt ev s x).fares = d.fares ∧
    (d.runReport t pt ev s x).sale = d.sale ∧ (d.runReport t pt ev s x).journal = d.journal ∧
    (d.runReport t pt ev s x).notices = d.notices ∧ (d.runReport t pt ev s x).halt = d.halt ∧
    (d.runReport t pt ev s x).board.groups = d.board.groups ∧ (d.runReport t pt ev s x).ports.quiet = d.ports.quiet := by
  unfold Device.runReport
  (repeat' split) <;> simp

@[simp] theorem Device.runFrame_frame (d : Device) (t pt : Nat) (data : List Byte) :
    (d.runFrame t pt data).phase = d.phase ∧ (d.runFrame t pt data).clock = d.clock ∧
    (d.runFrame t pt data).tt = d.tt ∧ (d.runFrame t pt data).fares = d.fares ∧
    (d.runFrame t pt data).sale = d.sale ∧ (d.runFrame t pt data).journal = d.journal ∧
    (d.runFrame t pt data).notices = d.notices ∧ (d.runFrame t pt data).halt = d.halt ∧
    (d.runFrame t pt data).board.groups = d.board.groups ∧ (d.runFrame t pt data).ports.quiet = d.ports.quiet := by
  have he := Device.enterTrain_frame d t true
  unfold Device.runFrame
  split
  · split
    · split
      · rename_i heq; rw [heq] at he; simpa using he
      · rename_i heq; rw [heq] at he; simpa using he
    · simp
  · split
    · simp
    · split <;> simp

@[simp] theorem Device.serviceAct_frame (d : Device) (t : Nat) (a : ServiceAction) :
    (d.serviceAct t a).phase = d.phase ∧ (d.serviceAct t a).clock = d.clock ∧ (d.serviceAct t a).tt = d.tt ∧
    (d.serviceAct t a).fares = d.fares ∧ (d.serviceAct t a).sale = d.sale ∧ (d.serviceAct t a).journal = d.journal ∧
    (d.serviceAct t a).notices = d.notices ∧ (d.serviceAct t a).halt = d.halt ∧
    (d.serviceAct t a).board.groups = d.board.groups ∧ (d.serviceAct t a).ports.quiet = d.ports.quiet := by
  unfold Device.serviceAct
  split <;> simp

@[simp] theorem Device.serviceFrame_frame (d : Device) (t : Nat) (data : List Byte) :
    (d.serviceFrame t data).phase = d.phase ∧ (d.serviceFrame t data).clock = d.clock ∧
    (d.serviceFrame t data).tt = d.tt ∧ (d.serviceFrame t data).fares = d.fares ∧
    (d.serviceFrame t data).sale = d.sale ∧ (d.serviceFrame t data).journal = d.journal ∧
    (d.serviceFrame t data).notices = d.notices ∧ (d.serviceFrame t data).halt = d.halt ∧
    (d.serviceFrame t data).board.groups = d.board.groups ∧ (d.serviceFrame t data).ports.quiet = d.ports.quiet := by
  unfold Device.serviceFrame
  split <;> simp

@[simp] theorem Device.stopAckFrame_frame (d : Device) (t : Nat) :
    (d.stopAckFrame t).phase = d.phase ∧ (d.stopAckFrame t).clock = d.clock ∧ (d.stopAckFrame t).tt = d.tt ∧
    (d.stopAckFrame t).fares = d.fares ∧ (d.stopAckFrame t).sale = d.sale ∧ (d.stopAckFrame t).journal = d.journal ∧
    (d.stopAckFrame t).notices = d.notices ∧ (d.stopAckFrame t).cues = d.cues ∧ (d.stopAckFrame t).co = d.co ∧
    (d.stopAckFrame t).halt = d.halt ∧ (d.stopAckFrame t).sched = d.sched ∧
    (d.stopAckFrame t).board.groups = d.board.groups ∧ (d.stopAckFrame t).board.finished = d.board.finished ∧
    (d.stopAckFrame t).board.lists = d.board.lists ∧ (d.stopAckFrame t).ports.quiet = d.ports.quiet := by
  simp [Device.stopAckFrame]

@[simp] theorem Device.sweep_frame (d : Device) :
    (d.sweep).phase = d.phase ∧ (d.sweep).clock = d.clock ∧ (d.sweep).tt = d.tt ∧ (d.sweep).fares = d.fares ∧
    (d.sweep).sale = d.sale ∧ (d.sweep).journal = d.journal ∧ (d.sweep).notices = d.notices ∧
    (d.sweep).halt = d.halt ∧ (d.sweep).board.groups = d.board.groups ∧ (d.sweep).ports.quiet = d.ports.quiet := by
  have h := Device.forAll_induction (P := fun e =>
      e.phase = d.phase ∧ e.clock = d.clock ∧ e.tt = d.tt ∧ e.fares = d.fares ∧ e.sale = d.sale ∧
      e.journal = d.journal ∧ e.notices = d.notices ∧ e.halt = d.halt ∧ e.board.groups = d.board.groups ∧
      e.ports.quiet = d.ports.quiet)
    (l := d.sweepVictims) (f := Device.removeTrain) (d := d) (by simp) (fun _ _ h => h) (fun x _ e h => by simpa using h)
  unfold Device.sweep
  simp only [Device.ageEntries_frame, Device.when_board, Device.when_phase, Device.when_clock, Device.when_tt,
    Device.when_fares, Device.when_sale, Device.when_journal, Device.when_notices, Device.when_halt, Device.when_ports,
    Device.clearTableFull_frame, ite_self]
  exact h

/-! ## Clock -/

@[simp] theorem Device.clockChanged_frame (d : Device) (b : Bool) :
    (d.clockChanged b).phase = d.phase ∧ (d.clockChanged b).clock = d.clock ∧ (d.clockChanged b).tt = d.tt ∧
    (d.clockChanged b).line = d.line ∧ (d.clockChanged b).sru = d.sru ∧ (d.clockChanged b).fares = d.fares ∧
    (d.clockChanged b).journal = d.journal ∧ (d.clockChanged b).co = d.co ∧ (d.clockChanged b).halt = d.halt ∧
    (d.clockChanged b).sale.slotA = d.sale.slotA ∧ (d.clockChanged b).sale.slotB = d.sale.slotB ∧
    (d.clockChanged b).sale.nextQuote = d.sale.nextQuote ∧ (d.clockChanged b).sale.lastSale = d.sale.lastSale ∧
    (d.clockChanged b).sale.closedFlag = d.sale.closedFlag ∧ (d.clockChanged b).board.groups = d.board.groups ∧
    (d.clockChanged b).board.finished = d.board.finished ∧ (d.clockChanged b).board.lists = d.board.lists ∧
    (d.clockChanged b).ports.quiet = d.ports.quiet := by
  unfold Device.clockChanged
  exact Device.forAll_induction (P := fun e =>
      e.phase = d.phase ∧ e.clock = d.clock ∧ e.tt = d.tt ∧ e.line = d.line ∧ e.sru = d.sru ∧ e.fares = d.fares ∧
      e.journal = d.journal ∧ e.co = d.co ∧ e.halt = d.halt ∧ e.sale.slotA = d.sale.slotA ∧
      e.sale.slotB = d.sale.slotB ∧ e.sale.nextQuote = d.sale.nextQuote ∧ e.sale.lastSale = d.sale.lastSale ∧
      e.sale.closedFlag = d.sale.closedFlag ∧ e.board.groups = d.board.groups ∧ e.board.finished = d.board.finished ∧
      e.board.lists = d.board.lists ∧ e.ports.quiet = d.ports.quiet)
        (by simp) (fun _ _ h => h) (fun f hf e h => by
          simp only [List.mem_cons, List.not_mem_nil, or_false] at hf
          rcases hf with rfl | rfl | rfl | rfl <;> simpa using h)

@[simp] theorem Device.stepClock_frame (d : Device) (x : Date) (s : Nat) :
    (d.stepClock x s).phase = d.phase ∧ (d.stepClock x s).tt = d.tt ∧ (d.stepClock x s).line = d.line ∧
    (d.stepClock x s).sru = d.sru ∧ (d.stepClock x s).fares = d.fares ∧ (d.stepClock x s).journal = d.journal ∧
    (d.stepClock x s).co = d.co ∧ (d.stepClock x s).halt = d.halt ∧ (d.stepClock x s).sale.slotA = d.sale.slotA ∧
    (d.stepClock x s).sale.slotB = d.sale.slotB ∧ (d.stepClock x s).sale.nextQuote = d.sale.nextQuote ∧
    (d.stepClock x s).sale.lastSale = d.sale.lastSale ∧ (d.stepClock x s).sale.closedFlag = d.sale.closedFlag ∧
    (d.stepClock x s).board.groups = d.board.groups ∧ (d.stepClock x s).board.finished = d.board.finished ∧
    (d.stepClock x s).board.lists = d.board.lists ∧ (d.stepClock x s).ports.quiet = d.ports.quiet := by
  simp [Device.stepClock]

@[simp] theorem Device.timeMark_frame (d : Device) (data : List Byte) :
    (d.timeMark data).phase = d.phase ∧ (d.timeMark data).tt = d.tt ∧ (d.timeMark data).line = d.line ∧
    (d.timeMark data).sru = d.sru ∧ (d.timeMark data).fares = d.fares ∧ (d.timeMark data).journal = d.journal ∧
    (d.timeMark data).co = d.co ∧ (d.timeMark data).halt = d.halt ∧ (d.timeMark data).sale.slotA = d.sale.slotA ∧
    (d.timeMark data).sale.slotB = d.sale.slotB ∧ (d.timeMark data).sale.nextQuote = d.sale.nextQuote ∧
    (d.timeMark data).sale.lastSale = d.sale.lastSale ∧ (d.timeMark data).sale.closedFlag = d.sale.closedFlag ∧
    (d.timeMark data).board.groups = d.board.groups ∧ (d.timeMark data).board.finished = d.board.finished ∧
    (d.timeMark data).board.lists = d.board.lists ∧ (d.timeMark data).ports.quiet = d.ports.quiet := by
  simp only [Device.timeMark]
  split <;> simp

@[simp] theorem Device.candidateClose_frame (d : Device) :
    (d.candidateClose).phase = d.phase ∧ (d.candidateClose).tt = d.tt ∧ (d.candidateClose).line = d.line ∧
    (d.candidateClose).table = d.table ∧ (d.candidateClose).sru = d.sru ∧ (d.candidateClose).fares = d.fares ∧
    (d.candidateClose).sale = d.sale ∧ (d.candidateClose).journal = d.journal ∧
    (d.candidateClose).notices = d.notices ∧ (d.candidateClose).board = d.board ∧ (d.candidateClose).cues = d.cues ∧
    (d.candidateClose).co = d.co ∧ (d.candidateClose).halt = d.halt ∧ (d.candidateClose).ports = d.ports ∧
    (d.candidateClose).sched = d.sched := by
  unfold Device.candidateClose
  split <;> simp

@[simp] theorem Device.syncExpiry_frame (d : Device) :
    (d.syncExpiry).phase = d.phase ∧ (d.syncExpiry).tt = d.tt ∧ (d.syncExpiry).line = d.line ∧
    (d.syncExpiry).sru = d.sru ∧ (d.syncExpiry).fares = d.fares ∧ (d.syncExpiry).journal = d.journal ∧
    (d.syncExpiry).co = d.co ∧ (d.syncExpiry).halt = d.halt ∧ (d.syncExpiry).sale.slotA = d.sale.slotA ∧
    (d.syncExpiry).sale.slotB = d.sale.slotB ∧ (d.syncExpiry).sale.nextQuote = d.sale.nextQuote ∧
    (d.syncExpiry).sale.lastSale = d.sale.lastSale ∧ (d.syncExpiry).sale.closedFlag = d.sale.closedFlag ∧
    (d.syncExpiry).board.groups = d.board.groups ∧ (d.syncExpiry).board.finished = d.board.finished ∧
    (d.syncExpiry).board.lists = d.board.lists ∧ (d.syncExpiry).ports.quiet = d.ports.quiet := by
  unfold Device.syncExpiry
  split <;> simp

@[simp] theorem Device.second_frame (d : Device) :
    (d.second).phase = d.phase ∧ (d.second).tt = d.tt ∧ (d.second).line = d.line ∧ (d.second).table = d.table ∧
    (d.second).sru = d.sru ∧ (d.second).fares = d.fares ∧ (d.second).sale = d.sale ∧ (d.second).journal = d.journal ∧
    (d.second).notices = d.notices ∧ (d.second).board = d.board ∧ (d.second).cues = d.cues ∧
    (d.second).halt = d.halt ∧ (d.second).ports = d.ports ∧ (d.second).sched = d.sched := by
  unfold Device.second
  split <;> simp

@[simp] theorem Device.minuteTick_frame (d : Device) :
    (d.minuteTick).phase = d.phase ∧ (d.minuteTick).tt = d.tt ∧ (d.minuteTick).line = d.line ∧
    (d.minuteTick).sru = d.sru ∧ (d.minuteTick).fares = d.fares ∧ (d.minuteTick).journal = d.journal ∧
    (d.minuteTick).halt = d.halt ∧ (d.minuteTick).sale.nextQuote = d.sale.nextQuote ∧
    (d.minuteTick).sale.lastSale = d.sale.lastSale ∧ (d.minuteTick).sale.closedFlag = d.sale.closedFlag ∧
    (d.minuteTick).board.groups = d.board.groups ∧ (d.minuteTick).board.finished = d.board.finished ∧
    (d.minuteTick).ports.quiet = d.ports.quiet := by
  unfold Device.minuteTick
  split
  · simp
  · exact Device.forAll_induction (P := fun e =>
      e.phase = d.phase ∧ e.tt = d.tt ∧ e.line = d.line ∧ e.sru = d.sru ∧ e.fares = d.fares ∧ e.journal = d.journal ∧
      e.halt = d.halt ∧ e.sale.nextQuote = d.sale.nextQuote ∧ e.sale.lastSale = d.sale.lastSale ∧
      e.sale.closedFlag = d.sale.closedFlag ∧ e.board.groups = d.board.groups ∧ e.board.finished = d.board.finished ∧
      e.ports.quiet = d.ports.quiet)
        (by simp) (fun _ _ h => h) (fun f hf e h => by
          simp only [List.mem_cons, List.not_mem_nil, or_false] at hf
          rcases hf with rfl | rfl | rfl | rfl | rfl <;> simpa using h)

@[simp] theorem Device.sweepTick_frame (d : Device) :
    (d.sweepTick).phase = d.phase ∧ (d.sweepTick).tt = d.tt ∧ (d.sweepTick).fares = d.fares ∧
    (d.sweepTick).sale = d.sale ∧ (d.sweepTick).journal = d.journal ∧ (d.sweepTick).notices = d.notices ∧
    (d.sweepTick).halt = d.halt ∧ (d.sweepTick).board.groups = d.board.groups ∧
    (d.sweepTick).ports.quiet = d.ports.quiet := by
  unfold Device.sweepTick
  split <;> simp

@[simp] theorem Device.dayTick_frame (d : Device) :
    (d.dayTick).phase = d.phase ∧ (d.dayTick).line = d.line ∧ (d.dayTick).table = d.table ∧ (d.dayTick).sru = d.sru ∧
    (d.dayTick).journal = d.journal ∧ (d.dayTick).cues = d.cues ∧ (d.dayTick).halt = d.halt ∧
    (d.dayTick).sale.slotA = d.sale.slotA ∧ (d.dayTick).sale.slotB = d.sale.slotB ∧
    (d.dayTick).sale.nextQuote = d.sale.nextQuote ∧ (d.dayTick).sale.lastSale = d.sale.lastSale ∧
    (d.dayTick).sale.closedFlag = d.sale.closedFlag ∧ (d.dayTick).board.groups = d.board.groups ∧
    (d.dayTick).ports.quiet = d.ports.quiet := by
  unfold Device.dayTick
  split
  · simp
  · dsimp only
    split <;> simp

/-- Everything a due day boundary can do: the rebuild and the trigger, or, where a delay of 0 starts, its expiry before the
rebuild (R177, log 45). -/
theorem Device.dayTick_cases {d e : Device} {n : Nat} (h : d.clock.dueDay = n + 1)
    (he : e = { d with clock := { d.clock with dueDay := n }, sched := d.sched / 2 }) :
    d.dayTick = e.boardDay.dayTrigger ∨ (e.co.startsSpent = true ∧ d.dayTick = e.dayTrigger.delayExpiry.boardDay) := by
  subst he
  unfold Device.dayTick
  rw [if_neg (by omega)]
  dsimp only
  rw [h]
  split
  · next hc => exact .inr ⟨(Bool.and_eq_true _ _ ▸ hc).2, rfl⟩
  · exact .inl rfl

@[simp] theorem Device.quoteTick_frame (d : Device) :
    (d.quoteTick).phase = d.phase ∧ (d.quoteTick).clock = d.clock ∧ (d.quoteTick).tt = d.tt ∧
    (d.quoteTick).line = d.line ∧ (d.quoteTick).table = d.table ∧ (d.quoteTick).sru = d.sru ∧
    (d.quoteTick).fares = d.fares ∧ (d.quoteTick).journal = d.journal ∧ (d.quoteTick).notices = d.notices ∧
    (d.quoteTick).board = d.board ∧ (d.quoteTick).cues = d.cues ∧ (d.quoteTick).co = d.co ∧
    (d.quoteTick).halt = d.halt ∧ (d.quoteTick).sched = d.sched ∧ (d.quoteTick).sale.nextQuote = d.sale.nextQuote ∧
    (d.quoteTick).sale.lastSale = d.sale.lastSale ∧ (d.quoteTick).sale.closedFlag = d.sale.closedFlag ∧
    (d.quoteTick).ports.quiet = d.ports.quiet := by
  simp [Device.quoteTick]

@[simp] theorem Device.noticeTick_frame (d : Device) :
    (d.noticeTick).phase = d.phase ∧ (d.noticeTick).clock = d.clock ∧ (d.noticeTick).tt = d.tt ∧
    (d.noticeTick).line = d.line ∧ (d.noticeTick).table = d.table ∧ (d.noticeTick).sru = d.sru ∧
    (d.noticeTick).fares = d.fares ∧ (d.noticeTick).sale = d.sale ∧ (d.noticeTick).journal = d.journal ∧
    (d.noticeTick).co = d.co ∧ (d.noticeTick).halt = d.halt ∧ (d.noticeTick).board.groups = d.board.groups ∧
    (d.noticeTick).board.finished = d.board.finished ∧ (d.noticeTick).board.lists = d.board.lists ∧
    (d.noticeTick).ports.quiet = d.ports.quiet := by
  simp [Device.noticeTick]

/-! ## Line and buttons -/

@[simp] theorem Device.lineNotice_frame (d : Device) (data : List Byte) :
    (d.lineNotice data).phase = d.phase ∧ (d.lineNotice data).clock = d.clock ∧ (d.lineNotice data).tt = d.tt ∧
    (d.lineNotice data).line = d.line ∧ (d.lineNotice data).table = d.table ∧ (d.lineNotice data).sru = d.sru ∧
    (d.lineNotice data).fares = d.fares ∧ (d.lineNotice data).sale = d.sale ∧
    (d.lineNotice data).journal = d.journal ∧ (d.lineNotice data).co = d.co ∧ (d.lineNotice data).halt = d.halt ∧
    (d.lineNotice data).sched = d.sched ∧ (d.lineNotice data).board.groups = d.board.groups ∧
    (d.lineNotice data).board.finished = d.board.finished ∧ (d.lineNotice data).board.lists = d.board.lists ∧
    (d.lineNotice data).ports.quiet = d.ports.quiet := by
  unfold Device.lineNotice
  (repeat' split) <;> simp

@[simp] theorem Device.dispatch_frame (d : Device) (f : LineFrame) :
    (d.dispatch f).phase = d.phase ∧ (d.dispatch f).tt = d.tt ∧ (d.dispatch f).fares = d.fares ∧
    (d.dispatch f).journal = d.journal ∧ (d.dispatch f).halt = d.halt ∧
    (d.dispatch f).board.groups = d.board.groups ∧ (d.dispatch f).sale.slotA = d.sale.slotA ∧
    (d.dispatch f).sale.slotB = d.sale.slotB ∧ (d.dispatch f).sale.nextQuote = d.sale.nextQuote ∧
    (d.dispatch f).sale.lastSale = d.sale.lastSale ∧ (d.dispatch f).sale.closedFlag = d.sale.closedFlag ∧
    (d.dispatch f).ports.quiet = d.ports.quiet := by
  unfold Device.dispatch
  split <;> simp

@[simp] theorem Device.arrival_frame (d : Device) (f : LineFrame) :
    (d.arrival f).phase = d.phase ∧ (d.arrival f).tt = d.tt ∧ (d.arrival f).fares = d.fares ∧
    (d.arrival f).journal = d.journal ∧ (d.arrival f).halt = d.halt ∧ (d.arrival f).board.groups = d.board.groups ∧
    (d.arrival f).sale.slotA = d.sale.slotA ∧ (d.arrival f).sale.slotB = d.sale.slotB ∧
    (d.arrival f).sale.nextQuote = d.sale.nextQuote ∧ (d.arrival f).sale.lastSale = d.sale.lastSale ∧
    (d.arrival f).sale.closedFlag = d.sale.closedFlag ∧ (d.arrival f).ports.quiet = d.ports.quiet := by
  unfold Device.arrival
  split
  · rcases Device.returnLine_cases (Device.dispatch f) (d.setLastHit (d.line.hitOf f.ident)) with ⟨-, h⟩ | ⟨-, h | h⟩ <;>
      rw [h] <;> simp
  · simp

@[simp] theorem Device.lineEvent_frame (d : Device) (f : LineFrame) :
    (d.lineEvent f).phase = d.phase ∧ (d.lineEvent f).tt = d.tt ∧ (d.lineEvent f).fares = d.fares ∧
    (d.lineEvent f).journal = d.journal ∧ (d.lineEvent f).halt = d.halt ∧
    (d.lineEvent f).board.groups = d.board.groups ∧ (d.lineEvent f).sale.slotA = d.sale.slotA ∧
    (d.lineEvent f).sale.slotB = d.sale.slotB ∧ (d.lineEvent f).sale.nextQuote = d.sale.nextQuote ∧
    (d.lineEvent f).sale.lastSale = d.sale.lastSale ∧ (d.lineEvent f).sale.closedFlag = d.sale.closedFlag ∧
    (d.lineEvent f).ports.quiet = d.ports.quiet := by
  simp [Device.lineEvent]

@[simp] theorem Device.attemptStart_frame (d : Device) :
    (d.attemptStart).phase = d.phase ∧ (d.attemptStart).clock = d.clock ∧ (d.attemptStart).tt = d.tt ∧
    (d.attemptStart).table = d.table ∧ (d.attemptStart).sru = d.sru ∧ (d.attemptStart).fares = d.fares ∧
    (d.attemptStart).sale = d.sale ∧ (d.attemptStart).journal = d.journal ∧ (d.attemptStart).notices = d.notices ∧
    (d.attemptStart).board = d.board ∧ (d.attemptStart).cues = d.cues ∧ (d.attemptStart).co = d.co ∧
    (d.attemptStart).halt = d.halt ∧ (d.attemptStart).ports = d.ports ∧ (d.attemptStart).sched = d.sched := by
  simp [Device.attemptStart]

@[simp] theorem Device.attemptAcknowledged_frame (d : Device) :
    (d.attemptAcknowledged).phase = d.phase ∧ (d.attemptAcknowledged).clock = d.clock ∧
    (d.attemptAcknowledged).tt = d.tt ∧ (d.attemptAcknowledged).fares = d.fares ∧
    (d.attemptAcknowledged).sale = d.sale ∧ (d.attemptAcknowledged).journal = d.journal ∧
    (d.attemptAcknowledged).cues = d.cues ∧ (d.attemptAcknowledged).co = d.co ∧
    (d.attemptAcknowledged).halt = d.halt ∧ (d.attemptAcknowledged).board.groups = d.board.groups ∧
    (d.attemptAcknowledged).board.finished = d.board.finished ∧ (d.attemptAcknowledged).board.lists = d.board.lists ∧
    (d.attemptAcknowledged).ports.quiet = d.ports.quiet := by
  unfold Device.attemptAcknowledged
  split
  · simp
  · rename_i k _
    rcases Device.returnLine_cases (Device.takeAcknowledged (d.line.trainIn k))
      (d.setLine { (d.line.ended k).setSlot k none with failures := 0 }) with ⟨-, h⟩ | ⟨-, h | h⟩ <;> rw [h] <;> simp

@[simp] theorem Device.attemptNotAcknowledged_frame (d : Device) :
    (d.attemptNotAcknowledged).phase = d.phase ∧ (d.attemptNotAcknowledged).clock = d.clock ∧
    (d.attemptNotAcknowledged).tt = d.tt ∧ (d.attemptNotAcknowledged).table = d.table ∧
    (d.attemptNotAcknowledged).sru = d.sru ∧ (d.attemptNotAcknowledged).fares = d.fares ∧
    (d.attemptNotAcknowledged).sale = d.sale ∧ (d.attemptNotAcknowledged).journal = d.journal ∧
    (d.attemptNotAcknowledged).cues = d.cues ∧ (d.attemptNotAcknowledged).co = d.co ∧
    (d.attemptNotAcknowledged).halt = d.halt ∧ (d.attemptNotAcknowledged).board.groups = d.board.groups ∧
    (d.attemptNotAcknowledged).board.finished = d.board.finished ∧
    (d.attemptNotAcknowledged).board.lists = d.board.lists ∧ (d.attemptNotAcknowledged).ports.quiet = d.ports.quiet := by
  unfold Device.attemptNotAcknowledged
  split <;> simp

@[simp] theorem Device.choose_frame (d : Device) (dir : Direction) (t : Nat) :
    (d.choose dir t).phase = d.phase ∧ (d.choose dir t).clock = d.clock ∧ (d.choose dir t).tt = d.tt ∧
    (d.choose dir t).line = d.line ∧ (d.choose dir t).table = d.table ∧ (d.choose dir t).fares = d.fares ∧
    (d.choose dir t).sale = d.sale ∧ (d.choose dir t).journal = d.journal ∧ (d.choose dir t).notices = d.notices ∧
    (d.choose dir t).board = d.board ∧ (d.choose dir t).cues = d.cues ∧ (d.choose dir t).co = d.co ∧
    (d.choose dir t).halt = d.halt ∧ (d.choose dir t).ports = d.ports ∧ (d.choose dir t).sched = d.sched := by
  simp [Device.choose]

@[simp] theorem Device.pressOn_frame (d : Device) (dir : Direction) (t : Nat) :
    (d.pressOn dir t).phase = d.phase ∧ (d.pressOn dir t).clock = d.clock ∧ (d.pressOn dir t).tt = d.tt ∧
    (d.pressOn dir t).fares = d.fares ∧ (d.pressOn dir t).sale = d.sale ∧ (d.pressOn dir t).journal = d.journal ∧
    (d.pressOn dir t).notices = d.notices ∧ (d.pressOn dir t).cues = d.cues ∧ (d.pressOn dir t).co = d.co ∧
    (d.pressOn dir t).halt = d.halt ∧ (d.pressOn dir t).sched = d.sched ∧
    (d.pressOn dir t).board.groups = d.board.groups ∧ (d.pressOn dir t).board.finished = d.board.finished ∧
    (d.pressOn dir t).board.lists = d.board.lists ∧ (d.pressOn dir t).ports.quiet = d.ports.quiet := by
  simp [Device.pressOn]

@[simp] theorem Device.takePress_frame (d : Device) (dir : Direction) :
    (d.takePress dir).phase = d.phase ∧ (d.takePress dir).clock = d.clock ∧ (d.takePress dir).tt = d.tt ∧
    (d.takePress dir).fares = d.fares ∧ (d.takePress dir).sale = d.sale ∧ (d.takePress dir).journal = d.journal ∧
    (d.takePress dir).notices = d.notices ∧ (d.takePress dir).halt = d.halt ∧
    (d.takePress dir).board.groups = d.board.groups ∧ (d.takePress dir).ports.quiet = d.ports.quiet := by
  unfold Device.takePress
  split
  · simp
  · rename_i c _
    split
    · simp
    · have he := Device.askEnter_frame d c.train
      split <;> (rename_i heq; rw [heq] at he; simpa using he)

@[simp] theorem Device.press_frame (d : Device) (dir : Direction) :
    (d.press dir).phase = d.phase ∧ (d.press dir).clock = d.clock ∧ (d.press dir).tt = d.tt ∧
    (d.press dir).fares = d.fares ∧ (d.press dir).sale = d.sale ∧ (d.press dir).journal = d.journal ∧
    (d.press dir).notices = d.notices ∧ (d.press dir).halt = d.halt ∧ (d.press dir).board.groups = d.board.groups ∧
    (d.press dir).ports.quiet = d.ports.quiet := by
  unfold Device.press
  split <;> simp

@[simp] theorem Device.release_frame (d : Device) (dir : Direction) :
    (d.release dir).phase = d.phase ∧ (d.release dir).clock = d.clock ∧ (d.release dir).tt = d.tt ∧
    (d.release dir).line = d.line ∧ (d.release dir).table = d.table ∧ (d.release dir).fares = d.fares ∧
    (d.release dir).sale = d.sale ∧ (d.release dir).journal = d.journal ∧ (d.release dir).notices = d.notices ∧
    (d.release dir).board = d.board ∧ (d.release dir).cues = d.cues ∧ (d.release dir).co = d.co ∧
    (d.release dir).halt = d.halt ∧ (d.release dir).ports = d.ports ∧ (d.release dir).sched = d.sched := by
  simp [Device.release]

@[simp] theorem Device.lampFlash_frame (d : Device) (dir : Direction) :
    (d.lampFlash dir).phase = d.phase ∧ (d.lampFlash dir).clock = d.clock ∧ (d.lampFlash dir).tt = d.tt ∧
    (d.lampFlash dir).line = d.line ∧ (d.lampFlash dir).table = d.table ∧ (d.lampFlash dir).fares = d.fares ∧
    (d.lampFlash dir).sale = d.sale ∧ (d.lampFlash dir).journal = d.journal ∧ (d.lampFlash dir).notices = d.notices ∧
    (d.lampFlash dir).board = d.board ∧ (d.lampFlash dir).cues = d.cues ∧ (d.lampFlash dir).co = d.co ∧
    (d.lampFlash dir).halt = d.halt ∧ (d.lampFlash dir).ports = d.ports ∧ (d.lampFlash dir).sched = d.sched := by
  unfold Device.lampFlash
  split <;> simp

/-! ## Sales -/

@[simp] theorem Device.addTicket_frame (d : Device) (t : Option Nat) (n : Nat) :
    (d.addTicket t n).phase = d.phase ∧ (d.addTicket t n).clock = d.clock ∧ (d.addTicket t n).tt = d.tt ∧
    (d.addTicket t n).fares = d.fares ∧ (d.addTicket t n).sale = d.sale ∧ (d.addTicket t n).journal = d.journal ∧
    (d.addTicket t n).notices = d.notices ∧ (d.addTicket t n).cues = d.cues ∧ (d.addTicket t n).co = d.co ∧
    (d.addTicket t n).halt = d.halt ∧ (d.addTicket t n).sched = d.sched ∧
    (d.addTicket t n).board.groups = d.board.groups ∧ (d.addTicket t n).board.finished = d.board.finished ∧
    (d.addTicket t n).board.lists = d.board.lists ∧ (d.addTicket t n).ports.quiet = d.ports.quiet := by
  unfold Device.addTicket
  split <;> simp

@[simp] theorem Device.voidTicket_frame (d : Device) (t : Option Nat) (n : Nat) :
    (d.voidTicket t n).phase = d.phase ∧ (d.voidTicket t n).clock = d.clock ∧ (d.voidTicket t n).tt = d.tt ∧
    (d.voidTicket t n).fares = d.fares ∧ (d.voidTicket t n).sale = d.sale ∧ (d.voidTicket t n).journal = d.journal ∧
    (d.voidTicket t n).notices = d.notices ∧ (d.voidTicket t n).cues = d.cues ∧ (d.voidTicket t n).co = d.co ∧
    (d.voidTicket t n).halt = d.halt ∧ (d.voidTicket t n).sched = d.sched ∧
    (d.voidTicket t n).board.groups = d.board.groups ∧ (d.voidTicket t n).board.finished = d.board.finished ∧
    (d.voidTicket t n).board.lists = d.board.lists ∧ (d.voidTicket t n).ports.quiet = d.ports.quiet := by
  unfold Device.voidTicket
  split <;> simp

@[simp] theorem Device.issueTicket_frame (d : Device) (k : QuoteSlot) (q : Quote) (c : Option CallRec) (pay : PayKind) (serial : Nat) :
    (d.issueTicket k q c pay serial).phase = d.phase ∧ (d.issueTicket k q c pay serial).clock = d.clock ∧
    (d.issueTicket k q c pay serial).tt = d.tt ∧ (d.issueTicket k q c pay serial).fares = d.fares ∧
    (d.issueTicket k q c pay serial).cues = d.cues ∧ (d.issueTicket k q c pay serial).co = d.co ∧
    (d.issueTicket k q c pay serial).halt = d.halt ∧ (d.issueTicket k q c pay serial).sched = d.sched ∧
    (d.issueTicket k q c pay serial).board.groups = d.board.groups ∧
    (d.issueTicket k q c pay serial).board.finished = d.board.finished ∧
    (d.issueTicket k q c pay serial).board.lists = d.board.lists ∧
    (d.issueTicket k q c pay serial).ports.quiet = d.ports.quiet ∧
    (d.issueTicket k q c pay serial).sale.nextQuote = d.sale.nextQuote ∧
    (d.issueTicket k q c pay serial).sale.closedFlag = d.sale.closedFlag := by
  simp [Device.issueTicket, SaleUnit.setSlot]
  cases k <;> simp

@[simp] theorem Device.issueCall_frame (d : Device) (q : Quote) :
    (d.issueCall q).2.phase = d.phase ∧ (d.issueCall q).2.clock = d.clock ∧ (d.issueCall q).2.tt = d.tt ∧
    (d.issueCall q).2.fares = d.fares ∧ (d.issueCall q).2.sale = d.sale ∧ (d.issueCall q).2.journal = d.journal ∧
    (d.issueCall q).2.notices = d.notices ∧ (d.issueCall q).2.halt = d.halt ∧
    (d.issueCall q).2.board.groups = d.board.groups ∧ (d.issueCall q).2.ports.quiet = d.ports.quiet := by
  unfold Device.issueCall
  split
  · simp
  · rename_i t _
    split
    · simp
    · split
      · have he := Device.askEnter_frame d t
        split <;> (rename_i heq; rw [heq] at he; simpa using he)
      · simp

end Sys2Proof.Machine
end

