-- ==== Sys2Proof/Laws/Commands.lean ====
section
/-!
SUPPORT. What the bodies of the commands leave as they were, and how a law of the device passes through a command period:
what the body of a command, the expiry test and a change of a port keep, the whole command keeps.
-/

namespace Sys2Proof.Machine

/-! ## Staging -/

@[simp] theorem stageBeginTimetable_frame (id : Nat) (d : Device) :
    (stageBeginTimetable id d).1.phase = d.phase ∧ (stageBeginTimetable id d).1.clock = d.clock ∧
    (stageBeginTimetable id d).1.line = d.line ∧ (stageBeginTimetable id d).1.table = d.table ∧
    (stageBeginTimetable id d).1.sru = d.sru ∧ (stageBeginTimetable id d).1.fares = d.fares ∧
    (stageBeginTimetable id d).1.sale = d.sale ∧ (stageBeginTimetable id d).1.journal = d.journal ∧
    (stageBeginTimetable id d).1.notices = d.notices ∧ (stageBeginTimetable id d).1.board = d.board ∧
    (stageBeginTimetable id d).1.cues = d.cues ∧ (stageBeginTimetable id d).1.co = d.co ∧
    (stageBeginTimetable id d).1.halt = d.halt ∧ (stageBeginTimetable id d).1.ports = d.ports ∧
    (stageBeginTimetable id d).1.sched = d.sched := by
  unfold stageBeginTimetable
  (repeat' split) <;> simp

@[simp] theorem stageBeginFares_frame (id : Nat) (d : Device) :
    (stageBeginFares id d).1.phase = d.phase ∧ (stageBeginFares id d).1.clock = d.clock ∧
    (stageBeginFares id d).1.tt = d.tt ∧ (stageBeginFares id d).1.line = d.line ∧
    (stageBeginFares id d).1.table = d.table ∧ (stageBeginFares id d).1.sru = d.sru ∧
    (stageBeginFares id d).1.sale = d.sale ∧ (stageBeginFares id d).1.journal = d.journal ∧
    (stageBeginFares id d).1.notices = d.notices ∧ (stageBeginFares id d).1.board = d.board ∧
    (stageBeginFares id d).1.cues = d.cues ∧ (stageBeginFares id d).1.co = d.co ∧
    (stageBeginFares id d).1.halt = d.halt ∧ (stageBeginFares id d).1.ports = d.ports ∧
    (stageBeginFares id d).1.sched = d.sched := by
  unfold stageBeginFares
  (repeat' split) <;> simp

@[simp] theorem runStagePutDest_frame (ps : List Byte) (d : Device) :
    (runStagePutDest ps d).1.phase = d.phase ∧ (runStagePutDest ps d).1.clock = d.clock ∧
    (runStagePutDest ps d).1.line = d.line ∧ (runStagePutDest ps d).1.table = d.table ∧
    (runStagePutDest ps d).1.sru = d.sru ∧ (runStagePutDest ps d).1.fares = d.fares ∧
    (runStagePutDest ps d).1.sale = d.sale ∧ (runStagePutDest ps d).1.journal = d.journal ∧
    (runStagePutDest ps d).1.notices = d.notices ∧ (runStagePutDest ps d).1.board = d.board ∧
    (runStagePutDest ps d).1.cues = d.cues ∧ (runStagePutDest ps d).1.co = d.co ∧
    (runStagePutDest ps d).1.halt = d.halt ∧ (runStagePutDest ps d).1.ports = d.ports ∧
    (runStagePutDest ps d).1.sched = d.sched := by
  unfold runStagePutDest
  (repeat' split) <;> simp

@[simp] theorem runStagePutCall_frame (ps : List Byte) (d : Device) :
    (runStagePutCall ps d).1.phase = d.phase ∧ (runStagePutCall ps d).1.clock = d.clock ∧
    (runStagePutCall ps d).1.line = d.line ∧ (runStagePutCall ps d).1.table = d.table ∧
    (runStagePutCall ps d).1.sru = d.sru ∧ (runStagePutCall ps d).1.fares = d.fares ∧
    (runStagePutCall ps d).1.sale = d.sale ∧ (runStagePutCall ps d).1.journal = d.journal ∧
    (runStagePutCall ps d).1.notices = d.notices ∧ (runStagePutCall ps d).1.board = d.board ∧
    (runStagePutCall ps d).1.cues = d.cues ∧ (runStagePutCall ps d).1.co = d.co ∧
    (runStagePutCall ps d).1.halt = d.halt ∧ (runStagePutCall ps d).1.ports = d.ports ∧
    (runStagePutCall ps d).1.sched = d.sched := by
  unfold runStagePutCall
  (repeat' split) <;> simp

@[simp] theorem stageCloseTimetable_frame (n : Nat) (d : Device) :
    (stageCloseTimetable n d).1.phase = d.phase ∧ (stageCloseTimetable n d).1.clock = d.clock ∧
    (stageCloseTimetable n d).1.line = d.line ∧ (stageCloseTimetable n d).1.table = d.table ∧
    (stageCloseTimetable n d).1.sru = d.sru ∧ (stageCloseTimetable n d).1.fares = d.fares ∧
    (stageCloseTimetable n d).1.sale = d.sale ∧ (stageCloseTimetable n d).1.journal = d.journal ∧
    (stageCloseTimetable n d).1.notices = d.notices ∧ (stageCloseTimetable n d).1.board = d.board ∧
    (stageCloseTimetable n d).1.cues = d.cues ∧ (stageCloseTimetable n d).1.co = d.co ∧
    (stageCloseTimetable n d).1.halt = d.halt ∧ (stageCloseTimetable n d).1.sched = d.sched ∧
    (stageCloseTimetable n d).1.ports.quiet = d.ports.quiet := by
  unfold stageCloseTimetable
  (repeat' split) <;> simp

@[simp] theorem runStagePutFare_frame (ps : List Byte) (d : Device) :
    (runStagePutFare ps d).1.phase = d.phase ∧ (runStagePutFare ps d).1.clock = d.clock ∧
    (runStagePutFare ps d).1.tt = d.tt ∧ (runStagePutFare ps d).1.line = d.line ∧
    (runStagePutFare ps d).1.table = d.table ∧ (runStagePutFare ps d).1.sru = d.sru ∧
    (runStagePutFare ps d).1.sale = d.sale ∧ (runStagePutFare ps d).1.journal = d.journal ∧
    (runStagePutFare ps d).1.notices = d.notices ∧ (runStagePutFare ps d).1.board = d.board ∧
    (runStagePutFare ps d).1.cues = d.cues ∧ (runStagePutFare ps d).1.co = d.co ∧
    (runStagePutFare ps d).1.halt = d.halt ∧ (runStagePutFare ps d).1.ports = d.ports ∧
    (runStagePutFare ps d).1.sched = d.sched := by
  unfold runStagePutFare
  (repeat' split) <;> simp

@[simp] theorem runStagePutRules_frame (ps : List Byte) (d : Device) :
    (runStagePutRules ps d).1.phase = d.phase ∧ (runStagePutRules ps d).1.clock = d.clock ∧
    (runStagePutRules ps d).1.tt = d.tt ∧ (runStagePutRules ps d).1.line = d.line ∧
    (runStagePutRules ps d).1.table = d.table ∧ (runStagePutRules ps d).1.sru = d.sru ∧
    (runStagePutRules ps d).1.sale = d.sale ∧ (runStagePutRules ps d).1.journal = d.journal ∧
    (runStagePutRules ps d).1.notices = d.notices ∧ (runStagePutRules ps d).1.board = d.board ∧
    (runStagePutRules ps d).1.cues = d.cues ∧ (runStagePutRules ps d).1.co = d.co ∧
    (runStagePutRules ps d).1.halt = d.halt ∧ (runStagePutRules ps d).1.ports = d.ports ∧
    (runStagePutRules ps d).1.sched = d.sched := by
  unfold runStagePutRules
  (repeat' split) <;> simp

@[simp] theorem stageCloseFares_frame (n : Nat) (d : Device) :
    (stageCloseFares n d).1.phase = d.phase ∧ (stageCloseFares n d).1.clock = d.clock ∧
    (stageCloseFares n d).1.tt = d.tt ∧ (stageCloseFares n d).1.line = d.line ∧
    (stageCloseFares n d).1.table = d.table ∧ (stageCloseFares n d).1.sru = d.sru ∧
    (stageCloseFares n d).1.sale = d.sale ∧ (stageCloseFares n d).1.journal = d.journal ∧
    (stageCloseFares n d).1.notices = d.notices ∧ (stageCloseFares n d).1.board = d.board ∧
    (stageCloseFares n d).1.cues = d.cues ∧ (stageCloseFares n d).1.co = d.co ∧
    (stageCloseFares n d).1.halt = d.halt ∧ (stageCloseFares n d).1.sched = d.sched ∧
    (stageCloseFares n d).1.ports.quiet = d.ports.quiet := by
  unfold stageCloseFares
  (repeat' split) <;> simp

@[simp] theorem runStageBegin_frame (ps : List Byte) (d : Device) :
    (runStageBegin ps d).1.phase = d.phase ∧ (runStageBegin ps d).1.clock = d.clock ∧
    (runStageBegin ps d).1.line = d.line ∧ (runStageBegin ps d).1.table = d.table ∧
    (runStageBegin ps d).1.sru = d.sru ∧ (runStageBegin ps d).1.sale = d.sale ∧
    (runStageBegin ps d).1.journal = d.journal ∧ (runStageBegin ps d).1.notices = d.notices ∧
    (runStageBegin ps d).1.board = d.board ∧ (runStageBegin ps d).1.cues = d.cues ∧
    (runStageBegin ps d).1.co = d.co ∧ (runStageBegin ps d).1.halt = d.halt ∧
    (runStageBegin ps d).1.ports = d.ports ∧ (runStageBegin ps d).1.sched = d.sched := by
  unfold runStageBegin
  (repeat' split) <;> simp

@[simp] theorem runStageClose_frame (ps : List Byte) (d : Device) :
    (runStageClose ps d).1.phase = d.phase ∧ (runStageClose ps d).1.clock = d.clock ∧
    (runStageClose ps d).1.line = d.line ∧ (runStageClose ps d).1.table = d.table ∧
    (runStageClose ps d).1.sru = d.sru ∧ (runStageClose ps d).1.sale = d.sale ∧
    (runStageClose ps d).1.journal = d.journal ∧ (runStageClose ps d).1.notices = d.notices ∧
    (runStageClose ps d).1.board = d.board ∧ (runStageClose ps d).1.cues = d.cues ∧
    (runStageClose ps d).1.co = d.co ∧ (runStageClose ps d).1.halt = d.halt ∧
    (runStageClose ps d).1.sched = d.sched ∧ (runStageClose ps d).1.ports.quiet = d.ports.quiet := by
  unfold runStageClose
  (repeat' split) <;> simp

/-! ## Change-over, notices, line and settings -/

@[simp] theorem runChangeoverSet_frame (ps : List Byte) (d : Device) :
    (runChangeoverSet ps d).1.phase = d.phase ∧ (runChangeoverSet ps d).1.clock = d.clock ∧
    (runChangeoverSet ps d).1.tt = d.tt ∧ (runChangeoverSet ps d).1.line = d.line ∧
    (runChangeoverSet ps d).1.table = d.table ∧ (runChangeoverSet ps d).1.sru = d.sru ∧
    (runChangeoverSet ps d).1.fares = d.fares ∧ (runChangeoverSet ps d).1.sale = d.sale ∧
    (runChangeoverSet ps d).1.journal = d.journal ∧ (runChangeoverSet ps d).1.notices = d.notices ∧
    (runChangeoverSet ps d).1.board = d.board ∧ (runChangeoverSet ps d).1.cues = d.cues ∧
    (runChangeoverSet ps d).1.halt = d.halt ∧ (runChangeoverSet ps d).1.ports = d.ports ∧
    (runChangeoverSet ps d).1.sched = d.sched := by
  unfold runChangeoverSet
  (repeat' split) <;> simp

@[simp] theorem runApplyNow_frame (ps : List Byte) (d : Device) :
    (runApplyNow ps d).1.phase = d.phase ∧ (runApplyNow ps d).1.clock = d.clock ∧
    (runApplyNow ps d).1.line = d.line ∧ (runApplyNow ps d).1.table = d.table ∧ (runApplyNow ps d).1.sru = d.sru ∧
    (runApplyNow ps d).1.journal = d.journal ∧ (runApplyNow ps d).1.cues = d.cues ∧
    (runApplyNow ps d).1.halt = d.halt ∧
    (runApplyNow ps d).1.sale.slotA = d.sale.slotA ∧ (runApplyNow ps d).1.sale.slotB = d.sale.slotB ∧
    (runApplyNow ps d).1.sale.nextQuote = d.sale.nextQuote ∧ (runApplyNow ps d).1.sale.lastSale = d.sale.lastSale ∧
    (runApplyNow ps d).1.sale.closedFlag = d.sale.closedFlag ∧ (runApplyNow ps d).1.board.groups = d.board.groups ∧
    (runApplyNow ps d).1.board.finished = d.board.finished ∧ (runApplyNow ps d).1.ports.quiet = d.ports.quiet := by
  unfold runApplyNow
  (repeat' split) <;> simp

@[simp] theorem runPutNotice_frame (ps : List Byte) (d : Device) :
    (runPutNotice ps d).1.phase = d.phase ∧ (runPutNotice ps d).1.clock = d.clock ∧ (runPutNotice ps d).1.tt = d.tt ∧
    (runPutNotice ps d).1.line = d.line ∧ (runPutNotice ps d).1.table = d.table ∧ (runPutNotice ps d).1.sru = d.sru ∧
    (runPutNotice ps d).1.fares = d.fares ∧ (runPutNotice ps d).1.sale = d.sale ∧
    (runPutNotice ps d).1.journal = d.journal ∧ (runPutNotice ps d).1.co = d.co ∧
    (runPutNotice ps d).1.halt = d.halt ∧ (runPutNotice ps d).1.sched = d.sched ∧
    (runPutNotice ps d).1.board.groups = d.board.groups ∧ (runPutNotice ps d).1.board.finished = d.board.finished ∧
    (runPutNotice ps d).1.board.lists = d.board.lists ∧ (runPutNotice ps d).1.ports.quiet = d.ports.quiet := by
  unfold runPutNotice
  (repeat' split) <;> simp

@[simp] theorem runRemoveNotice_frame (ps : List Byte) (d : Device) :
    (runRemoveNotice ps d).1.phase = d.phase ∧ (runRemoveNotice ps d).1.clock = d.clock ∧
    (runRemoveNotice ps d).1.tt = d.tt ∧ (runRemoveNotice ps d).1.line = d.line ∧
    (runRemoveNotice ps d).1.table = d.table ∧ (runRemoveNotice ps d).1.sru = d.sru ∧
    (runRemoveNotice ps d).1.fares = d.fares ∧ (runRemoveNotice ps d).1.sale = d.sale ∧
    (runRemoveNotice ps d).1.journal = d.journal ∧ (runRemoveNotice ps d).1.cues = d.cues ∧
    (runRemoveNotice ps d).1.co = d.co ∧ (runRemoveNotice ps d).1.halt = d.halt ∧
    (runRemoveNotice ps d).1.sched = d.sched ∧ (runRemoveNotice ps d).1.board.groups = d.board.groups ∧
    (runRemoveNotice ps d).1.board.finished = d.board.finished ∧
    (runRemoveNotice ps d).1.board.lists = d.board.lists ∧ (runRemoveNotice ps d).1.ports.quiet = d.ports.quiet := by
  unfold runRemoveNotice
  (repeat' split) <;> simp

@[simp] theorem showOrHide_frame (b : Bool) (ps : List Byte) (d : Device) :
    (showOrHide b ps d).1.phase = d.phase ∧ (showOrHide b ps d).1.clock = d.clock ∧ (showOrHide b ps d).1.tt = d.tt ∧
    (showOrHide b ps d).1.line = d.line ∧ (showOrHide b ps d).1.table = d.table ∧ (showOrHide b ps d).1.sru = d.sru ∧
    (showOrHide b ps d).1.fares = d.fares ∧ (showOrHide b ps d).1.sale = d.sale ∧
    (showOrHide b ps d).1.journal = d.journal ∧ (showOrHide b ps d).1.co = d.co ∧
    (showOrHide b ps d).1.halt = d.halt ∧ (showOrHide b ps d).1.sched = d.sched ∧
    (showOrHide b ps d).1.board.groups = d.board.groups ∧ (showOrHide b ps d).1.board.finished = d.board.finished ∧
    (showOrHide b ps d).1.board.lists = d.board.lists ∧ (showOrHide b ps d).1.ports.quiet = d.ports.quiet := by
  unfold showOrHide
  (repeat' split) <;> simp

@[simp] theorem runSetFilter_frame (ps : List Byte) (d : Device) :
    (runSetFilter ps d).1.phase = d.phase ∧ (runSetFilter ps d).1.clock = d.clock ∧ (runSetFilter ps d).1.tt = d.tt ∧
    (runSetFilter ps d).1.table = d.table ∧ (runSetFilter ps d).1.sru = d.sru ∧
    (runSetFilter ps d).1.fares = d.fares ∧ (runSetFilter ps d).1.sale = d.sale ∧
    (runSetFilter ps d).1.journal = d.journal ∧ (runSetFilter ps d).1.notices = d.notices ∧
    (runSetFilter ps d).1.board = d.board ∧ (runSetFilter ps d).1.cues = d.cues ∧ (runSetFilter ps d).1.co = d.co ∧
    (runSetFilter ps d).1.halt = d.halt ∧ (runSetFilter ps d).1.ports = d.ports ∧
    (runSetFilter ps d).1.sched = d.sched := by
  unfold runSetFilter
  (repeat' split) <;> simp

@[simp] theorem runSetScreen_frame (ps : List Byte) (d : Device) :
    (runSetScreen ps d).1.phase = d.phase ∧ (runSetScreen ps d).1.clock = d.clock ∧ (runSetScreen ps d).1.tt = d.tt ∧
    (runSetScreen ps d).1.line = d.line ∧ (runSetScreen ps d).1.table = d.table ∧ (runSetScreen ps d).1.sru = d.sru ∧
    (runSetScreen ps d).1.fares = d.fares ∧ (runSetScreen ps d).1.sale = d.sale ∧
    (runSetScreen ps d).1.journal = d.journal ∧ (runSetScreen ps d).1.notices = d.notices ∧
    (runSetScreen ps d).1.cues = d.cues ∧ (runSetScreen ps d).1.co = d.co ∧ (runSetScreen ps d).1.halt = d.halt ∧
    (runSetScreen ps d).1.sched = d.sched ∧ (runSetScreen ps d).1.board.groups = d.board.groups ∧
    (runSetScreen ps d).1.board.finished = d.board.finished ∧ (runSetScreen ps d).1.ports.quiet = d.ports.quiet := by
  unfold runSetScreen
  (repeat' split) <;> simp

@[simp] theorem runSetGroup_frame (ps : List Byte) (d : Device) :
    (runSetGroup ps d).1.phase = d.phase ∧ (runSetGroup ps d).1.clock = d.clock ∧ (runSetGroup ps d).1.tt = d.tt ∧
    (runSetGroup ps d).1.line = d.line ∧ (runSetGroup ps d).1.table = d.table ∧ (runSetGroup ps d).1.sru = d.sru ∧
    (runSetGroup ps d).1.fares = d.fares ∧ (runSetGroup ps d).1.sale = d.sale ∧
    (runSetGroup ps d).1.journal = d.journal ∧ (runSetGroup ps d).1.notices = d.notices ∧
    (runSetGroup ps d).1.cues = d.cues ∧ (runSetGroup ps d).1.co = d.co ∧ (runSetGroup ps d).1.halt = d.halt ∧
    (runSetGroup ps d).1.sched = d.sched ∧ (runSetGroup ps d).1.board.finished = d.board.finished ∧
    (runSetGroup ps d).1.ports.quiet = d.ports.quiet := by
  unfold runSetGroup
  (repeat' split) <;> simp

@[simp] theorem runReportScreen_frame (ps : List Byte) (d : Device) :
    (runReportScreen ps d).1.phase = d.phase ∧ (runReportScreen ps d).1.clock = d.clock ∧
    (runReportScreen ps d).1.tt = d.tt ∧ (runReportScreen ps d).1.line = d.line ∧
    (runReportScreen ps d).1.table = d.table ∧ (runReportScreen ps d).1.sru = d.sru ∧
    (runReportScreen ps d).1.fares = d.fares ∧ (runReportScreen ps d).1.sale = d.sale ∧
    (runReportScreen ps d).1.journal = d.journal ∧ (runReportScreen ps d).1.notices = d.notices ∧
    (runReportScreen ps d).1.cues = d.cues ∧ (runReportScreen ps d).1.co = d.co ∧
    (runReportScreen ps d).1.halt = d.halt ∧ (runReportScreen ps d).1.sched = d.sched ∧
    (runReportScreen ps d).1.board.groups = d.board.groups ∧
    (runReportScreen ps d).1.board.finished = d.board.finished ∧
    (runReportScreen ps d).1.board.lists = d.board.lists ∧ (runReportScreen ps d).1.ports.quiet = d.ports.quiet := by
  unfold runReportScreen
  (repeat' split) <;> simp

@[simp] theorem runSetTime_frame (ps : List Byte) (d : Device) :
    (runSetTime ps d).1.phase = d.phase ∧ (runSetTime ps d).1.tt = d.tt ∧ (runSetTime ps d).1.line = d.line ∧
    (runSetTime ps d).1.sru = d.sru ∧ (runSetTime ps d).1.fares = d.fares ∧ (runSetTime ps d).1.journal = d.journal ∧
    (runSetTime ps d).1.co = d.co ∧ (runSetTime ps d).1.halt = d.halt ∧
    (runSetTime ps d).1.sale.slotA = d.sale.slotA ∧ (runSetTime ps d).1.sale.slotB = d.sale.slotB ∧
    (runSetTime ps d).1.sale.nextQuote = d.sale.nextQuote ∧ (runSetTime ps d).1.sale.lastSale = d.sale.lastSale ∧
    (runSetTime ps d).1.sale.closedFlag = d.sale.closedFlag ∧ (runSetTime ps d).1.board.groups = d.board.groups ∧
    (runSetTime ps d).1.board.finished = d.board.finished ∧ (runSetTime ps d).1.board.lists = d.board.lists ∧
    (runSetTime ps d).1.ports.quiet = d.ports.quiet := by
  unfold runSetTime
  (repeat' split) <;> simp

@[simp] theorem runRestartLine_frame (ps : List Byte) (d : Device) :
    (runRestartLine ps d).1.phase = d.phase ∧ (runRestartLine ps d).1.clock = d.clock ∧
    (runRestartLine ps d).1.tt = d.tt ∧ (runRestartLine ps d).1.table = d.table ∧
    (runRestartLine ps d).1.sru = d.sru ∧ (runRestartLine ps d).1.fares = d.fares ∧
    (runRestartLine ps d).1.sale = d.sale ∧ (runRestartLine ps d).1.journal = d.journal ∧
    (runRestartLine ps d).1.cues = d.cues ∧ (runRestartLine ps d).1.co = d.co ∧
    (runRestartLine ps d).1.halt = d.halt ∧ (runRestartLine ps d).1.board.groups = d.board.groups ∧
    (runRestartLine ps d).1.board.finished = d.board.finished ∧ (runRestartLine ps d).1.board.lists = d.board.lists ∧
    (runRestartLine ps d).1.ports.quiet = d.ports.quiet := by
  simp [runRestartLine]

@[simp] theorem Device.haltChanged_frame (d : Device) (a b : HaltSettings) :
    (d.haltChanged a b).phase = d.phase ∧ (d.haltChanged a b).clock = d.clock ∧ (d.haltChanged a b).tt = d.tt ∧
    (d.haltChanged a b).line = d.line ∧ (d.haltChanged a b).sru = d.sru ∧ (d.haltChanged a b).fares = d.fares ∧
    (d.haltChanged a b).journal = d.journal ∧ (d.haltChanged a b).co = d.co ∧ (d.haltChanged a b).halt = d.halt ∧
    (d.haltChanged a b).board.groups = d.board.groups ∧ (d.haltChanged a b).board.finished = d.board.finished ∧
    (d.haltChanged a b).board.lists = d.board.lists ∧ (d.haltChanged a b).sale.slotA = d.sale.slotA ∧
    (d.haltChanged a b).sale.slotB = d.sale.slotB ∧ (d.haltChanged a b).sale.nextQuote = d.sale.nextQuote ∧
    (d.haltChanged a b).sale.lastSale = d.sale.lastSale ∧ (d.haltChanged a b).sale.closedFlag = d.sale.closedFlag ∧
    (d.haltChanged a b).ports.quiet = d.ports.quiet := by
  unfold Device.haltChanged
  exact Device.forAll_induction (P := fun e =>
      e.phase = d.phase ∧ e.clock = d.clock ∧ e.tt = d.tt ∧ e.line = d.line ∧ e.sru = d.sru ∧ e.fares = d.fares ∧
      e.journal = d.journal ∧ e.co = d.co ∧ e.halt = d.halt ∧ e.board.groups = d.board.groups ∧
      e.board.finished = d.board.finished ∧ e.board.lists = d.board.lists ∧ e.sale.slotA = d.sale.slotA ∧
      e.sale.slotB = d.sale.slotB ∧ e.sale.nextQuote = d.sale.nextQuote ∧ e.sale.lastSale = d.sale.lastSale ∧
      e.sale.closedFlag = d.sale.closedFlag ∧ e.ports.quiet = d.ports.quiet)
        (by simp) (fun _ _ h => h) (fun f hf e h => by
          simp only [List.mem_cons, List.not_mem_nil, or_false] at hf
          rcases hf with rfl | rfl | rfl | rfl <;> simpa using h)

@[simp] theorem runSetHalt_frame (ps : List Byte) (d : Device) :
    (runSetHalt ps d).1.phase = d.phase ∧ (runSetHalt ps d).1.clock = d.clock ∧ (runSetHalt ps d).1.tt = d.tt ∧
    (runSetHalt ps d).1.line = d.line ∧ (runSetHalt ps d).1.sru = d.sru ∧ (runSetHalt ps d).1.fares = d.fares ∧
    (runSetHalt ps d).1.journal = d.journal ∧ (runSetHalt ps d).1.co = d.co ∧
    (runSetHalt ps d).1.board.groups = d.board.groups ∧ (runSetHalt ps d).1.board.finished = d.board.finished ∧
    (runSetHalt ps d).1.board.lists = d.board.lists ∧ (runSetHalt ps d).1.sale.slotA = d.sale.slotA ∧
    (runSetHalt ps d).1.sale.slotB = d.sale.slotB ∧ (runSetHalt ps d).1.sale.nextQuote = d.sale.nextQuote ∧
    (runSetHalt ps d).1.sale.lastSale = d.sale.lastSale ∧ (runSetHalt ps d).1.sale.closedFlag = d.sale.closedFlag ∧
    (runSetHalt ps d).1.ports.quiet = d.ports.quiet := by
  unfold runSetHalt
  (repeat' split) <;> simp

/-! ## Journal and sales -/

@[simp] theorem runSetSerialBase_frame (ps : List Byte) (d : Device) :
    (runSetSerialBase ps d).1.phase = d.phase ∧ (runSetSerialBase ps d).1.clock = d.clock ∧
    (runSetSerialBase ps d).1.tt = d.tt ∧ (runSetSerialBase ps d).1.line = d.line ∧
    (runSetSerialBase ps d).1.table = d.table ∧ (runSetSerialBase ps d).1.sru = d.sru ∧
    (runSetSerialBase ps d).1.fares = d.fares ∧ (runSetSerialBase ps d).1.cues = d.cues ∧
    (runSetSerialBase ps d).1.co = d.co ∧ (runSetSerialBase ps d).1.halt = d.halt ∧
    (runSetSerialBase ps d).1.sched = d.sched ∧ (runSetSerialBase ps d).1.sale.slotA = d.sale.slotA ∧
    (runSetSerialBase ps d).1.sale.slotB = d.sale.slotB ∧
    (runSetSerialBase ps d).1.sale.nextQuote = d.sale.nextQuote ∧
    (runSetSerialBase ps d).1.sale.lastSale = d.sale.lastSale ∧
    (runSetSerialBase ps d).1.sale.closedFlag = d.sale.closedFlag ∧
    (runSetSerialBase ps d).1.board.groups = d.board.groups ∧
    (runSetSerialBase ps d).1.board.finished = d.board.finished ∧
    (runSetSerialBase ps d).1.board.lists = d.board.lists ∧ (runSetSerialBase ps d).1.ports.quiet = d.ports.quiet := by
  simp only [runSetSerialBase]
  (repeat' split) <;> simp

@[simp] theorem runSetPartition_frame (ps : List Byte) (d : Device) :
    (runSetPartition ps d).1.phase = d.phase ∧ (runSetPartition ps d).1.clock = d.clock ∧
    (runSetPartition ps d).1.tt = d.tt ∧ (runSetPartition ps d).1.line = d.line ∧
    (runSetPartition ps d).1.table = d.table ∧ (runSetPartition ps d).1.sru = d.sru ∧
    (runSetPartition ps d).1.fares = d.fares ∧ (runSetPartition ps d).1.cues = d.cues ∧
    (runSetPartition ps d).1.co = d.co ∧ (runSetPartition ps d).1.halt = d.halt ∧
    (runSetPartition ps d).1.sched = d.sched ∧ (runSetPartition ps d).1.sale.slotA = d.sale.slotA ∧
    (runSetPartition ps d).1.sale.slotB = d.sale.slotB ∧ (runSetPartition ps d).1.sale.nextQuote = d.sale.nextQuote ∧
    (runSetPartition ps d).1.sale.lastSale = d.sale.lastSale ∧
    (runSetPartition ps d).1.sale.closedFlag = d.sale.closedFlag ∧
    (runSetPartition ps d).1.board.groups = d.board.groups ∧
    (runSetPartition ps d).1.board.finished = d.board.finished ∧
    (runSetPartition ps d).1.board.lists = d.board.lists ∧ (runSetPartition ps d).1.ports.quiet = d.ports.quiet := by
  simp only [runSetPartition]
  (repeat' split) <;> simp

@[simp] theorem runReadJournal_frame (ps : List Byte) (d : Device) :
    (runReadJournal ps d).1.phase = d.phase ∧ (runReadJournal ps d).1.clock = d.clock ∧
    (runReadJournal ps d).1.tt = d.tt ∧ (runReadJournal ps d).1.line = d.line ∧
    (runReadJournal ps d).1.table = d.table ∧ (runReadJournal ps d).1.sru = d.sru ∧
    (runReadJournal ps d).1.fares = d.fares ∧ (runReadJournal ps d).1.sale = d.sale ∧
    (runReadJournal ps d).1.journal = d.journal ∧ (runReadJournal ps d).1.notices = d.notices ∧
    (runReadJournal ps d).1.board = d.board ∧ (runReadJournal ps d).1.cues = d.cues ∧
    (runReadJournal ps d).1.co = d.co ∧ (runReadJournal ps d).1.halt = d.halt ∧
    (runReadJournal ps d).1.ports = d.ports ∧ (runReadJournal ps d).1.sched = d.sched := by
  simp [runReadJournal]

@[simp] theorem runRelease_frame (ps : List Byte) (d : Device) :
    (runRelease ps d).1.phase = d.phase ∧ (runRelease ps d).1.clock = d.clock ∧ (runRelease ps d).1.tt = d.tt ∧
    (runRelease ps d).1.line = d.line ∧ (runRelease ps d).1.table = d.table ∧ (runRelease ps d).1.sru = d.sru ∧
    (runRelease ps d).1.fares = d.fares ∧ (runRelease ps d).1.cues = d.cues ∧ (runRelease ps d).1.co = d.co ∧
    (runRelease ps d).1.halt = d.halt ∧ (runRelease ps d).1.sched = d.sched ∧
    (runRelease ps d).1.sale.slotA = d.sale.slotA ∧ (runRelease ps d).1.sale.slotB = d.sale.slotB ∧
    (runRelease ps d).1.sale.nextQuote = d.sale.nextQuote ∧ (runRelease ps d).1.sale.lastSale = d.sale.lastSale ∧
    (runRelease ps d).1.sale.closedFlag = d.sale.closedFlag ∧ (runRelease ps d).1.board.groups = d.board.groups ∧
    (runRelease ps d).1.board.finished = d.board.finished ∧ (runRelease ps d).1.board.lists = d.board.lists ∧
    (runRelease ps d).1.ports.quiet = d.ports.quiet := by
  simp only [runRelease]
  split <;> simp

@[simp] theorem closeOrOpen_frame (b : Bool) (d : Device) :
    (closeOrOpen b d).1.phase = d.phase ∧ (closeOrOpen b d).1.clock = d.clock ∧ (closeOrOpen b d).1.tt = d.tt ∧
    (closeOrOpen b d).1.line = d.line ∧ (closeOrOpen b d).1.table = d.table ∧ (closeOrOpen b d).1.sru = d.sru ∧
    (closeOrOpen b d).1.fares = d.fares ∧ (closeOrOpen b d).1.journal = d.journal ∧
    (closeOrOpen b d).1.cues = d.cues ∧ (closeOrOpen b d).1.co = d.co ∧ (closeOrOpen b d).1.halt = d.halt ∧
    (closeOrOpen b d).1.sched = d.sched ∧ (closeOrOpen b d).1.sale.slotA = d.sale.slotA ∧
    (closeOrOpen b d).1.sale.slotB = d.sale.slotB ∧ (closeOrOpen b d).1.sale.nextQuote = d.sale.nextQuote ∧
    (closeOrOpen b d).1.sale.lastSale = d.sale.lastSale ∧ (closeOrOpen b d).1.board.groups = d.board.groups ∧
    (closeOrOpen b d).1.board.finished = d.board.finished ∧ (closeOrOpen b d).1.board.lists = d.board.lists ∧
    (closeOrOpen b d).1.ports.quiet = d.ports.quiet := by
  simp [closeOrOpen]

@[simp] theorem saleReply_frame (r : Reply) (d : Device) :
    (saleReply r d).1.phase = d.phase ∧ (saleReply r d).1.clock = d.clock ∧ (saleReply r d).1.tt = d.tt ∧
    (saleReply r d).1.line = d.line ∧ (saleReply r d).1.table = d.table ∧ (saleReply r d).1.sru = d.sru ∧
    (saleReply r d).1.fares = d.fares ∧ (saleReply r d).1.sale = d.sale ∧ (saleReply r d).1.journal = d.journal ∧
    (saleReply r d).1.notices = d.notices ∧ (saleReply r d).1.board = d.board ∧ (saleReply r d).1.cues = d.cues ∧
    (saleReply r d).1.co = d.co ∧ (saleReply r d).1.halt = d.halt ∧ (saleReply r d).1.ports = d.ports ∧
    (saleReply r d).1.sched = d.sched := by
  simp [saleReply]

@[simp] theorem runQuote_frame (ps : List Byte) (d : Device) :
    (runQuote ps d).1.phase = d.phase ∧ (runQuote ps d).1.clock = d.clock ∧ (runQuote ps d).1.tt = d.tt ∧
    (runQuote ps d).1.line = d.line ∧ (runQuote ps d).1.table = d.table ∧ (runQuote ps d).1.sru = d.sru ∧
    (runQuote ps d).1.fares = d.fares ∧ (runQuote ps d).1.journal = d.journal ∧
    (runQuote ps d).1.notices = d.notices ∧ (runQuote ps d).1.board = d.board ∧ (runQuote ps d).1.cues = d.cues ∧
    (runQuote ps d).1.co = d.co ∧ (runQuote ps d).1.halt = d.halt ∧ (runQuote ps d).1.ports = d.ports ∧
    (runQuote ps d).1.sched = d.sched ∧ (runQuote ps d).1.sale.lastSale = d.sale.lastSale ∧
    (runQuote ps d).1.sale.closedFlag = d.sale.closedFlag := by
  unfold runQuote
  split
  · simp
  · split
    · simp
    · simp [SaleUnit.openIn]
      split <;> simp

@[simp] theorem runCancelQuote_frame (ps : List Byte) (d : Device) :
    (runCancelQuote ps d).1.phase = d.phase ∧ (runCancelQuote ps d).1.clock = d.clock ∧
    (runCancelQuote ps d).1.tt = d.tt ∧ (runCancelQuote ps d).1.line = d.line ∧
    (runCancelQuote ps d).1.table = d.table ∧ (runCancelQuote ps d).1.sru = d.sru ∧
    (runCancelQuote ps d).1.fares = d.fares ∧ (runCancelQuote ps d).1.journal = d.journal ∧
    (runCancelQuote ps d).1.notices = d.notices ∧ (runCancelQuote ps d).1.board = d.board ∧
    (runCancelQuote ps d).1.cues = d.cues ∧ (runCancelQuote ps d).1.co = d.co ∧
    (runCancelQuote ps d).1.halt = d.halt ∧ (runCancelQuote ps d).1.ports = d.ports ∧
    (runCancelQuote ps d).1.sched = d.sched ∧ (runCancelQuote ps d).1.sale.nextQuote = d.sale.nextQuote ∧
    (runCancelQuote ps d).1.sale.lastSale = d.sale.lastSale ∧
    (runCancelQuote ps d).1.sale.closedFlag = d.sale.closedFlag := by
  unfold runCancelQuote
  (repeat' split) <;> simp [SaleUnit.setSlot] <;> split <;> simp

@[simp] theorem refuseIssue_frame (k : QuoteSlot) (r : IssueRefusal) (d : Device) :
    (refuseIssue k r d).1.phase = d.phase ∧ (refuseIssue k r d).1.clock = d.clock ∧ (refuseIssue k r d).1.tt = d.tt ∧
    (refuseIssue k r d).1.line = d.line ∧ (refuseIssue k r d).1.table = d.table ∧ (refuseIssue k r d).1.sru = d.sru ∧
    (refuseIssue k r d).1.fares = d.fares ∧ (refuseIssue k r d).1.journal = d.journal ∧
    (refuseIssue k r d).1.notices = d.notices ∧ (refuseIssue k r d).1.board = d.board ∧
    (refuseIssue k r d).1.cues = d.cues ∧ (refuseIssue k r d).1.co = d.co ∧ (refuseIssue k r d).1.halt = d.halt ∧
    (refuseIssue k r d).1.ports = d.ports ∧ (refuseIssue k r d).1.sched = d.sched ∧
    (refuseIssue k r d).1.sale.nextQuote = d.sale.nextQuote ∧ (refuseIssue k r d).1.sale.lastSale = d.sale.lastSale ∧
    (refuseIssue k r d).1.sale.closedFlag = d.sale.closedFlag := by
  simp [refuseIssue, SaleUnit.setSlot]
  cases k <;> simp

@[simp] theorem issueQuote_frame (k : QuoteSlot) (q : Quote) (amount : Nat) (pay : PayKind) (d : Device) :
    (issueQuote k q amount pay d).1.phase = d.phase ∧ (issueQuote k q amount pay d).1.clock = d.clock ∧
    (issueQuote k q amount pay d).1.tt = d.tt ∧ (issueQuote k q amount pay d).1.fares = d.fares ∧
    (issueQuote k q amount pay d).1.halt = d.halt ∧ (issueQuote k q amount pay d).1.board.groups = d.board.groups ∧
    (issueQuote k q amount pay d).1.ports.quiet = d.ports.quiet ∧
    (issueQuote k q amount pay d).1.sale.nextQuote = d.sale.nextQuote ∧
    (issueQuote k q amount pay d).1.sale.closedFlag = d.sale.closedFlag := by
  have hc := Device.issueCall_frame d q
  unfold issueQuote
  split
  · simp
  · split
    · rename_i heq; rw [heq] at hc; simp only at hc; simp [hc]
    · rename_i heq; rw [heq] at hc; simp only at hc
      split <;> simp [hc]

@[simp] theorem runIssue_frame (ps : List Byte) (d : Device) :
    (runIssue ps d).1.phase = d.phase ∧ (runIssue ps d).1.clock = d.clock ∧ (runIssue ps d).1.tt = d.tt ∧
    (runIssue ps d).1.fares = d.fares ∧ (runIssue ps d).1.halt = d.halt ∧
    (runIssue ps d).1.board.groups = d.board.groups ∧ (runIssue ps d).1.ports.quiet = d.ports.quiet ∧
    (runIssue ps d).1.sale.nextQuote = d.sale.nextQuote ∧ (runIssue ps d).1.sale.closedFlag = d.sale.closedFlag := by
  unfold runIssue
  (repeat' split) <;> simp

@[simp] theorem runVoid_frame (ps : List Byte) (d : Device) :
    (runVoid ps d).1.phase = d.phase ∧ (runVoid ps d).1.clock = d.clock ∧ (runVoid ps d).1.tt = d.tt ∧
    (runVoid ps d).1.fares = d.fares ∧ (runVoid ps d).1.cues = d.cues ∧ (runVoid ps d).1.co = d.co ∧
    (runVoid ps d).1.halt = d.halt ∧ (runVoid ps d).1.sched = d.sched ∧ (runVoid ps d).1.sale.slotA = d.sale.slotA ∧
    (runVoid ps d).1.sale.slotB = d.sale.slotB ∧ (runVoid ps d).1.sale.nextQuote = d.sale.nextQuote ∧
    (runVoid ps d).1.sale.closedFlag = d.sale.closedFlag ∧ (runVoid ps d).1.board.groups = d.board.groups ∧
    (runVoid ps d).1.board.finished = d.board.finished ∧ (runVoid ps d).1.board.lists = d.board.lists ∧
    (runVoid ps d).1.ports.quiet = d.ports.quiet := by
  unfold runVoid
  (repeat' split) <;> simp

/-! ## Reading and ports -/

@[simp] theorem runReadPage_frame (ps : List Byte) (d : Device) :
    (runReadPage ps d).1.phase = d.phase ∧ (runReadPage ps d).1.clock = d.clock ∧ (runReadPage ps d).1.tt = d.tt ∧
    (runReadPage ps d).1.line = d.line ∧ (runReadPage ps d).1.table = d.table ∧ (runReadPage ps d).1.sru = d.sru ∧
    (runReadPage ps d).1.fares = d.fares ∧ (runReadPage ps d).1.sale = d.sale ∧
    (runReadPage ps d).1.journal = d.journal ∧ (runReadPage ps d).1.notices = d.notices ∧
    (runReadPage ps d).1.board = d.board ∧ (runReadPage ps d).1.cues = d.cues ∧ (runReadPage ps d).1.co = d.co ∧
    (runReadPage ps d).1.halt = d.halt ∧ (runReadPage ps d).1.ports = d.ports ∧ (runReadPage ps d).1.sched = d.sched := by
  unfold runReadPage
  (repeat' split) <;> simp

@[simp] theorem runReadDepartures_frame (ps : List Byte) (d : Device) :
    (runReadDepartures ps d).1.phase = d.phase ∧ (runReadDepartures ps d).1.clock = d.clock ∧
    (runReadDepartures ps d).1.tt = d.tt ∧ (runReadDepartures ps d).1.line = d.line ∧
    (runReadDepartures ps d).1.table = d.table ∧ (runReadDepartures ps d).1.sru = d.sru ∧
    (runReadDepartures ps d).1.fares = d.fares ∧ (runReadDepartures ps d).1.sale = d.sale ∧
    (runReadDepartures ps d).1.journal = d.journal ∧ (runReadDepartures ps d).1.notices = d.notices ∧
    (runReadDepartures ps d).1.board = d.board ∧ (runReadDepartures ps d).1.cues = d.cues ∧
    (runReadDepartures ps d).1.co = d.co ∧ (runReadDepartures ps d).1.halt = d.halt ∧
    (runReadDepartures ps d).1.ports = d.ports ∧ (runReadDepartures ps d).1.sched = d.sched := by
  unfold runReadDepartures
  (repeat' split) <;> simp

@[simp] theorem runReadStatus_frame (ps : List Byte) (d : Device) :
    (runReadStatus ps d).1.phase = d.phase ∧ (runReadStatus ps d).1.clock = d.clock ∧
    (runReadStatus ps d).1.tt = d.tt ∧ (runReadStatus ps d).1.line = d.line ∧
    (runReadStatus ps d).1.table = d.table ∧ (runReadStatus ps d).1.sru = d.sru ∧
    (runReadStatus ps d).1.fares = d.fares ∧ (runReadStatus ps d).1.sale = d.sale ∧
    (runReadStatus ps d).1.journal = d.journal ∧ (runReadStatus ps d).1.notices = d.notices ∧
    (runReadStatus ps d).1.board = d.board ∧ (runReadStatus ps d).1.cues = d.cues ∧
    (runReadStatus ps d).1.co = d.co ∧ (runReadStatus ps d).1.halt = d.halt ∧
    (runReadStatus ps d).1.ports = d.ports ∧ (runReadStatus ps d).1.sched = d.sched := by
  unfold runReadStatus
  (repeat' split) <;> simp

@[simp] theorem runTakeCue_frame (ps : List Byte) (d : Device) :
    (runTakeCue ps d).1.phase = d.phase ∧ (runTakeCue ps d).1.clock = d.clock ∧ (runTakeCue ps d).1.tt = d.tt ∧
    (runTakeCue ps d).1.line = d.line ∧ (runTakeCue ps d).1.table = d.table ∧ (runTakeCue ps d).1.sru = d.sru ∧
    (runTakeCue ps d).1.fares = d.fares ∧ (runTakeCue ps d).1.sale = d.sale ∧
    (runTakeCue ps d).1.journal = d.journal ∧ (runTakeCue ps d).1.notices = d.notices ∧
    (runTakeCue ps d).1.board = d.board ∧ (runTakeCue ps d).1.co = d.co ∧ (runTakeCue ps d).1.halt = d.halt ∧
    (runTakeCue ps d).1.sched = d.sched ∧ (runTakeCue ps d).1.ports.quiet = d.ports.quiet := by
  unfold runTakeCue
  (repeat' split) <;> simp

@[simp] theorem runReadNotify_frame (p : PortId) (ps : List Byte) (d : Device) :
    (runReadNotify p ps d).1.phase = d.phase ∧ (runReadNotify p ps d).1.clock = d.clock ∧
    (runReadNotify p ps d).1.tt = d.tt ∧ (runReadNotify p ps d).1.line = d.line ∧
    (runReadNotify p ps d).1.sru = d.sru ∧ (runReadNotify p ps d).1.fares = d.fares ∧
    (runReadNotify p ps d).1.sale = d.sale ∧ (runReadNotify p ps d).1.journal = d.journal ∧
    (runReadNotify p ps d).1.notices = d.notices ∧ (runReadNotify p ps d).1.board = d.board ∧
    (runReadNotify p ps d).1.cues = d.cues ∧ (runReadNotify p ps d).1.co = d.co ∧
    (runReadNotify p ps d).1.halt = d.halt ∧ (runReadNotify p ps d).1.sched = d.sched ∧
    (runReadNotify p ps d).1.ports.quiet = d.ports.quiet := by
  cases p <;> simp [runReadNotify, Device.clearNotify] <;> rfl

@[simp] theorem runSetNotifyMask_frame (p : PortId) (ps : List Byte) (d : Device) :
    (runSetNotifyMask p ps d).1.phase = d.phase ∧ (runSetNotifyMask p ps d).1.clock = d.clock ∧
    (runSetNotifyMask p ps d).1.tt = d.tt ∧ (runSetNotifyMask p ps d).1.line = d.line ∧
    (runSetNotifyMask p ps d).1.table = d.table ∧ (runSetNotifyMask p ps d).1.sru = d.sru ∧
    (runSetNotifyMask p ps d).1.fares = d.fares ∧ (runSetNotifyMask p ps d).1.sale = d.sale ∧
    (runSetNotifyMask p ps d).1.journal = d.journal ∧ (runSetNotifyMask p ps d).1.notices = d.notices ∧
    (runSetNotifyMask p ps d).1.board = d.board ∧ (runSetNotifyMask p ps d).1.cues = d.cues ∧
    (runSetNotifyMask p ps d).1.co = d.co ∧ (runSetNotifyMask p ps d).1.halt = d.halt ∧
    (runSetNotifyMask p ps d).1.sched = d.sched := by
  simp [runSetNotifyMask]

/-! ## A law through a command period -/

/-- A command period keeps what a change of a port keeps and what the command itself keeps (R188, R189). -/
theorem Device.commandPeriod_induction {P : Device → Prop} {d : Device} {p : PortId} {c : Cmd} {ps : List Byte}
    {k : Device → Device} (hp : ∀ d p x, P d → P (d.setPort p x)) (hk : ∀ d, P d → P (k d)) (h : P d) :
    P (d.commandPeriod p c ps k) := by
  unfold Device.commandPeriod Device.inIdle Device.tested Device.lengthTested
  simp only [Device.placeError, Device.place, Device.clockOut]
  split
  · exact h
  · split
    · split
      · exact hp _ _ _ (hp _ _ _ h)
      · split
        · exact hp _ _ _ (hp _ _ _ h)
        · split
          · exact hk _ (hp _ _ _ h)
          · exact hp _ _ _ (hp _ _ _ h)
    · exact hp _ _ _ h

/-- The carrying out of a command keeps what its body, the expiry test and a change of a port keep (R189). -/
theorem Device.carryOut_induction {P : Device → Prop} {d : Device} {p : PortId} {c : Cmd}
    {body : Device → Device × Reply} (hp : ∀ d p x, P d → P (d.setPort p x)) (hc : ∀ d, P d → P d.closeExpired)
    (hb : ∀ d, P d → P (body d).1) (h : P d) : P (d.carryOut p c body) := by
  unfold Device.carryOut Device.hold
  refine hp _ _ _ (hb _ ?_)
  unfold Device.when
  split
  · exact hc _ h
  · exact h

/-- A command keeps what its body, the expiry test and a change of a port keep (R188, R189). -/
theorem Device.commanded_induction {P : Device → Prop} {d : Device} {p : PortId} {c : Cmd} {ps : List Byte}
    {body : Device → Device × Reply} (hp : ∀ d p x, P d → P (d.setPort p x)) (hc : ∀ d, P d → P d.closeExpired)
    (hb : ∀ d, P d → P (body d).1) (h : P d) : P (d.commanded p c ps body) :=
  Device.commandPeriod_induction hp (fun _ h => Device.carryOut_induction hp hc hb h) h

/-- A part of PUT_NOTICE keeps what the whole command, the expiry test and a change of a port keep (R190). -/
theorem Device.putNoticePeriod_induction {P : Device → Prop} {d : Device} {p : PortId} {ps : List Byte}
    (hp : ∀ d p x, P d → P (d.setPort p x)) (hc : ∀ d, P d → P d.closeExpired)
    (hb : ∀ qs d, P d → P (runPutNotice qs d).1) (h : P d) : P (d.putNoticePeriod p ps) := by
  unfold Device.putNoticePeriod Device.inIdle Device.tested Device.takePart Device.lengthTested
  simp only [Device.placeError, Device.place, Device.clockOut, Device.setAssembly]
  split
  · exact h
  · split
    · split
      · exact hp _ _ _ (hp _ _ _ h)
      · split
        · exact hp _ _ _ (hp _ _ _ h)
        · split
          · exact hp _ _ _ (hp _ _ _ (hp _ _ _ h))
          · split
            · exact hp _ _ _ (hp _ _ _ (hp _ _ _ h))
            · exact hp _ _ _ (hp _ _ _ (hp _ _ _ h))
            · split
              · exact Device.carryOut_induction hp hc (hb _) (hp _ _ _ (hp _ _ _ h))
              · exact hp _ _ _ (hp _ _ _ (hp _ _ _ h))
    · exact hp _ _ _ h

/-- A read period keeps what a change of a port keeps (R191). -/
theorem Device.readPeriod_induction {P : Device → Prop} {d : Device} {p : PortId} {n : Nat}
    (hp : ∀ d p x, P d → P (d.setPort p x)) (h : P d) : P (d.readPeriod p n) := by
  unfold Device.readPeriod Device.readResponse
  simp only [Device.clockOut]
  split
  · exact h
  · split
    · exact hp _ _ _ h
    · split
      · exact hp _ _ _ h
      · exact hp _ _ _ (hp _ _ _ h)
    · exact hp _ _ _ h

/-- The placing of a response keeps what a change of a port keeps (R191). -/
theorem Device.responsePlaced_induction {P : Device → Prop} {d : Device} {p : PortId}
    (hp : ∀ d p x, P d → P (d.setPort p x)) (h : P d) : P (d.responsePlaced p) := by
  unfold Device.responsePlaced Device.place
  split
  · exact hp _ _ _ h
  · exact h

/-- A law that passes through a change of a port, the expiry test and every command's body passes through the command period
of any command given by its code (R189, R194). -/
theorem Cmd.period_induction {P : Device → Prop} {p : PortId} {ps : List Byte} {d : Device} (c : Cmd)
    (hp : ∀ d p x, P d → P (d.setPort p x)) (hc : ∀ d, P d → P d.closeExpired) (hr : ∀ d, P d → P d.restart)
    (hb : ∀ d, P d → P (runQuote ps d).1 ∧ P (runIssue ps d).1 ∧ P (runVoid ps d).1 ∧ P (runCancelQuote ps d).1
      ∧ P (runReadPage ps d).1 ∧ P (runTakeCue ps d).1 ∧ P (runReportScreen ps d).1 ∧ P (runReadDepartures ps d).1
      ∧ P (runReadNotify p ps d).1 ∧ P (runSetNotifyMask p ps d).1 ∧ P (runStageBegin ps d).1 ∧ P (runStagePutDest ps d).1
      ∧ P (runStagePutCall ps d).1 ∧ P (runStagePutFare ps d).1 ∧ P (runStagePutRules ps d).1 ∧ P (runStageClose ps d).1
      ∧ P (runChangeoverSet ps d).1 ∧ P (runApplyNow ps d).1 ∧ P (runRemoveNotice ps d).1 ∧ P (showOrHide true ps d).1
      ∧ P (showOrHide false ps d).1 ∧ P (runSetFilter ps d).1 ∧ P (runSetHalt ps d).1 ∧ P (runSetScreen ps d).1
      ∧ P (runSetGroup ps d).1 ∧ P (runSetTime ps d).1 ∧ P (runSetSerialBase ps d).1 ∧ P (runSetPartition ps d).1
      ∧ P (runReadJournal ps d).1 ∧ P (runRelease ps d).1 ∧ P (closeOrOpen false d).1 ∧ P (closeOrOpen true d).1
      ∧ P (runRestartLine ps d).1 ∧ P (runReadStatus ps d).1)
    (hn : ∀ qs d, P d → P (runPutNotice qs d).1) (h : P d) : P (c.period p ps d) := by
  cases c
  case putNotice => exact Device.putNoticePeriod_induction hp hc hn h
  case restart => exact Device.commandPeriod_induction hp hr h
  all_goals
    refine Device.commanded_induction hp hc (fun e he => ?_) h
    have := hb e he
    tauto

end Sys2Proof.Machine
end

