-- ==== Sys2Proof/Laws/Kept.lean ====
section
/-!
SUPPORT. How a law of the device is shown to pass through every command: `Kept P` lists what has to keep `P`, one operation
each, and `Kept.exec` says that then every command answers a next state with `P`, its queue as it was.
-/

namespace Sys2Proof.Machine

/-- The operations that keep a law of the device: a change of a port, the expiry test, the body of every command, and every
event. -/
structure Kept (P : Device → Prop) : Prop where
  port : ∀ d p x, P d → P (d.setPort p x)
  expire : ∀ d, P d → P d.closeExpired
  quote : ∀ ps d, P d → P (runQuote ps d).1
  issue : ∀ ps d, P d → P (runIssue ps d).1
  void : ∀ ps d, P d → P (runVoid ps d).1
  cancelQuote : ∀ ps d, P d → P (runCancelQuote ps d).1
  readPage : ∀ ps d, P d → P (runReadPage ps d).1
  takeCue : ∀ ps d, P d → P (runTakeCue ps d).1
  reportScreen : ∀ ps d, P d → P (runReportScreen ps d).1
  readDepartures : ∀ ps d, P d → P (runReadDepartures ps d).1
  readNotify : ∀ p ps d, P d → P (runReadNotify p ps d).1
  setNotifyMask : ∀ p ps d, P d → P (runSetNotifyMask p ps d).1
  beginTimetable : ∀ id d, P d → P (stageBeginTimetable id d).1
  beginFares : ∀ id d, P d → P (stageBeginFares id d).1
  putDest : ∀ ps d, P d → P (runStagePutDest ps d).1
  putCall : ∀ ps d, P d → P (runStagePutCall ps d).1
  putFare : ∀ ps d, P d → P (runStagePutFare ps d).1
  putRules : ∀ ps d, P d → P (runStagePutRules ps d).1
  closeTimetable : ∀ n d, P d → P (stageCloseTimetable n d).1
  closeFares : ∀ n d, P d → P (stageCloseFares n d).1
  changeoverSet : ∀ ps d, P d → P (runChangeoverSet ps d).1
  applyNow : ∀ ps d, P d → P (runApplyNow ps d).1
  putNotice : ∀ ps d, P d → P (runPutNotice ps d).1
  removeNotice : ∀ ps d, P d → P (runRemoveNotice ps d).1
  showNotice : ∀ b ps d, P d → P (showOrHide b ps d).1
  setFilter : ∀ ps d, P d → P (runSetFilter ps d).1
  setHalt : ∀ ps d, P d → P (runSetHalt ps d).1
  setScreen : ∀ ps d, P d → P (runSetScreen ps d).1
  setGroup : ∀ ps d, P d → P (runSetGroup ps d).1
  setTime : ∀ ps d, P d → P (runSetTime ps d).1
  setSerialBase : ∀ ps d, P d → P (runSetSerialBase ps d).1
  setPartition : ∀ ps d, P d → P (runSetPartition ps d).1
  readJournal : ∀ ps d, P d → P (runReadJournal ps d).1
  release : ∀ ps d, P d → P (runRelease ps d).1
  closeOrOpen : ∀ b d, P d → P (closeOrOpen b d).1
  restartLine : ∀ ps d, P d → P (runRestartLine ps d).1
  readStatus : ∀ ps d, P d → P (runReadStatus ps d).1
  beginStart : ∀ c d, P d → P (Device.beginStart c d)
  powerLoss : ∀ d, P d → P (Device.powerLoss d)
  startEnd : ∀ b d, P d → P (Device.startEnd b d)
  lineEvent : ∀ f d, P d → P (Device.lineEvent f d)
  attemptStart : ∀ d, P d → P (Device.attemptStart d)
  attemptAcknowledged : ∀ d, P d → P (Device.attemptAcknowledged d)
  attemptNotAcknowledged : ∀ d, P d → P (Device.attemptNotAcknowledged d)
  second : ∀ d, P d → P (Device.second d)
  minuteTick : ∀ d, P d → P (Device.minuteTick d)
  sweepTick : ∀ d, P d → P (Device.sweepTick d)
  dayTick : ∀ d, P d → P (Device.dayTick d)
  syncExpiry : ∀ d, P d → P (Device.syncExpiry d)
  candidateClose : ∀ d, P d → P (Device.candidateClose d)
  delayExpiry : ∀ d, P d → P (Device.delayExpiry d)
  noticeTick : ∀ d, P d → P (Device.noticeTick d)
  press : ∀ dir d, P d → P (Device.press dir d)
  release' : ∀ dir d, P d → P (Device.release dir d)
  lampFlash : ∀ dir d, P d → P (Device.lampFlash dir d)

namespace Kept

variable {P : Device → Prop}

/-- A guarded event keeps what the event keeps. -/
theorem guarded {f : Device → Device} {d : Device} (c : Bool) (hf : ∀ d, P d → P (f d)) (h : P d) : P (d.when c f) := by
  unfold Device.when
  split
  · exact hf _ h
  · exact h

/-- STAGE_BEGIN with its item byte keeps what the begins of the two items keep. -/
theorem stageBegin (K : Kept P) (ps : List Byte) (d : Device) (h : P d) : P (runStageBegin ps d).1 := by
  unfold runStageBegin
  (repeat' split)
  · exact K.beginTimetable _ _ h
  · exact K.beginFares _ _ h
  · exact h

/-- STAGE_CLOSE with its item byte keeps what the closes of the two items keep. -/
theorem stageClose (K : Kept P) (ps : List Byte) (d : Device) (h : P d) : P (runStageClose ps d).1 := by
  unfold runStageClose
  (repeat' split)
  · exact K.closeTimetable _ _ h
  · exact K.closeFares _ _ h
  · exact h

/-- A period given by its bytes keeps the law (R188, R189). -/
theorem rawPeriod (K : Kept P) (p : PortId) (bytes : List Byte) (d : Device) (h : P d) : P (d.rawPeriod p bytes) := by
  have herr : ∀ st : Status, P (d.inIdle p bytes.length (Device.placeError p (bytes.getD 1 0) st)) := by
    intro st
    unfold Device.inIdle
    (repeat' split)
    · exact h
    · exact K.port _ _ _ (K.port _ _ _ h)
    · exact K.port _ _ _ h
  unfold Device.rawPeriod Device.rawCommand
  split
  · exact h
  · split
    · exact Device.readPeriod_induction K.port h
    · split
      · exact herr _
      · split
        · exact herr _
        · rename_i c _
          refine Cmd.period_induction c K.port K.expire (fun d h => K.beginStart _ d h) (fun e he => ?_) K.putNotice h
          exact ⟨K.quote _ _ he, K.issue _ _ he, K.void _ _ he, K.cancelQuote _ _ he, K.readPage _ _ he, K.takeCue _ _ he,
            K.reportScreen _ _ he, K.readDepartures _ _ he, K.readNotify _ _ _ he, K.setNotifyMask _ _ _ he,
            K.stageBegin _ _ he, K.putDest _ _ he, K.putCall _ _ he, K.putFare _ _ he, K.putRules _ _ he,
            K.stageClose _ _ he, K.changeoverSet _ _ he, K.applyNow _ _ he, K.removeNotice _ _ he, K.showNotice _ _ _ he,
            K.showNotice _ _ _ he, K.setFilter _ _ he, K.setHalt _ _ he, K.setScreen _ _ he, K.setGroup _ _ he,
            K.setTime _ _ he, K.setSerialBase _ _ he, K.setPartition _ _ he, K.readJournal _ _ he, K.release _ _ he,
            K.closeOrOpen _ _ he, K.closeOrOpen _ _ he, K.restartLine _ _ he, K.readStatus _ _ he⟩

/-- Every command answers a next state that keeps the law, with the queue as it was. -/
theorem exec (K : Kept P) (c : Instr) (s : State) (h : P s.dev) :
    ∃ d, exec c s = .next { s with dev := d } ∧ P d := by
  have cmd : ∀ (p : PortId) (c : Cmd) (ps : List Byte) (body : Device → Device × Reply),
      (∀ d, P d → P (body d).1) → P (s.dev.commanded p c ps body) :=
    fun p c ps body hb => Device.commanded_induction K.port K.expire hb h
  cases c <;> refine ⟨_, rfl, ?_⟩
  case putNotice => exact Device.putNoticePeriod_induction K.port K.expire K.putNotice h
  case restart => exact Device.commandPeriod_induction K.port (fun d h => K.beginStart _ d h) h
  case unknownCommand => exact K.rawPeriod _ _ _ h
  case readPeriod => exact Device.readPeriod_induction K.port h
  case responsePlaced => exact Device.responsePlaced_induction K.port h
  case powerOn =>
    show P (Device.powerOn _)
    unfold Device.powerOn; split
    · exact K.beginStart _ _ h
    · exact h
  case resetInput =>
    show P (Device.resetInput _)
    unfold Device.resetInput; split
    · exact h
    · exact K.beginStart _ _ h
  case startEnd => exact K.startEnd _ _ h
  case powerLoss => exact K.powerLoss _ h
  case runFrame => exact K.lineEvent _ _ h
  case cancel => exact K.lineEvent _ _ h
  case reinstate => exact K.lineEvent _ _ h
  case platform => exact K.lineEvent _ _ h
  case serviceFrameTouchOnly => exact K.lineEvent _ _ h
  case timemark => exact K.lineEvent _ _ h
  case stopack => exact K.lineEvent _ _ h
  case linenotice => exact K.lineEvent _ _ h
  case lineFrameDiscarded => exact K.lineEvent _ _ h
  case attemptStart => exact guarded _ K.attemptStart h
  case attemptAcknowledged => exact guarded _ K.attemptAcknowledged h
  case attemptNotAcknowledged => exact guarded _ K.attemptNotAcknowledged h
  case secondAdvance => exact K.second _ h
  case minuteTick => exact guarded _ K.minuteTick h
  case sweepTick => exact guarded _ K.sweepTick h
  case dayBoundary => exact guarded _ K.dayTick h
  case syncAgeExpiry => exact guarded _ K.syncExpiry h
  case candidateWindowClose => exact guarded _ K.candidateClose h
  case delayExpiry => exact guarded _ K.delayExpiry h
  case quoteExpiry => exact guarded _ (fun d h => guarded _ K.expire h) h
  case noticeExpiry => exact guarded _ K.noticeTick h
  case buttonPress => exact guarded _ (K.press _) h
  case buttonRelease => exact guarded _ (K.release' _) h
  case lampFlash => exact guarded _ (K.lampFlash _) h
  case quote => exact cmd _ _ _ _ (K.quote _)
  case issue => exact cmd _ _ _ _ (K.issue _)
  case void => exact cmd _ _ _ _ (K.void _)
  case cancelQuote => exact cmd _ _ _ _ (K.cancelQuote _)
  case readPage => exact cmd _ _ _ _ (K.readPage _)
  case takeCue => exact cmd _ _ _ _ (K.takeCue _)
  case reportScreen => exact cmd _ _ _ _ (K.reportScreen _)
  case readDepartures => exact cmd _ _ _ _ (K.readDepartures _)
  case stagePutDest => exact cmd _ _ _ _ (K.putDest _)
  case stagePutCall => exact cmd _ _ _ _ (K.putCall _)
  case stagePutFare => exact cmd _ _ _ _ (K.putFare _)
  case stagePutRules => exact cmd _ _ _ _ (K.putRules _)
  case stageBeginTimetable => exact cmd _ _ _ _ (K.beginTimetable _)
  case stageBeginFares => exact cmd _ _ _ _ (K.beginFares _)
  case stageCloseTimetable => exact cmd _ _ _ _ (K.closeTimetable _)
  case stageCloseFares => exact cmd _ _ _ _ (K.closeFares _)
  case changeoverSet => exact cmd _ _ _ _ (K.changeoverSet _)
  case applyNow => exact cmd _ _ _ _ (K.applyNow _)
  case removeNotice => exact cmd _ _ _ _ (K.removeNotice _)
  case setFilter => exact cmd _ _ _ _ (K.setFilter _)
  case setHalt => exact cmd _ _ _ _ (K.setHalt _)
  case setScreen => exact cmd _ _ _ _ (K.setScreen _)
  case setGroup => exact cmd _ _ _ _ (K.setGroup _)
  case setTime => exact cmd _ _ _ _ (K.setTime _)
  case setSerialBase => exact cmd _ _ _ _ (K.setSerialBase _)
  case setPartition => exact cmd _ _ _ _ (K.setPartition _)
  case readJournal => exact cmd _ _ _ _ (K.readJournal _)
  case release => exact cmd _ _ _ _ (K.release _)
  case restartLine => exact cmd _ _ _ _ (K.restartLine _)
  case readStatus => exact cmd _ _ _ _ (K.readStatus _)
  case readNotify => exact cmd _ _ _ _ (K.readNotify _ _)
  case setNotifyMask => exact cmd _ _ _ _ (K.setNotifyMask _ _)
  case showNotice => exact cmd _ _ _ _ (K.showNotice _ _)
  case hideNotice => exact cmd _ _ _ _ (K.showNotice _ _)
  case openSales => exact cmd _ _ _ _ (K.closeOrOpen _)
  case closeSales => exact cmd _ _ _ _ (K.closeOrOpen _)

/-- A step keeps the law: the front command, or idling. -/
theorem step (K : Kept P) {s t : State} (h : P s.dev) (ht : step s = .next t) : P t.dev := by
  unfold Machine.step at ht
  split at ht
  · cases ht; exact h
  · rename_i c rest _
    obtain ⟨d, he, hd⟩ := K.exec c { s with pending := rest } h
    rw [he] at ht
    cases ht
    exact hd

end Kept

end Sys2Proof.Machine
end

