-- ==== Sys2Proof/Laws/Journal.lean ====
section
/-!
SUPPORT. What the operations over the journal do to its law (`Journal.Lawful` of Safety.lean).
-/

namespace Sys2Proof.Machine

/-- The last chain of a list of records, from the anchor `l`, does not depend on where the list is cut at its head. -/
theorem lastChain_cons (l : BitVec 16) (x : JournalRec) (xs : List JournalRec) :
    ((x :: xs).getLast?.map JournalRec.chain).getD l = (xs.getLast?.map JournalRec.chain).getD x.chain := by
  cases xs with
  | nil => rfl
  | cons y ys =>
    rw [List.getLast?_cons_cons, List.getLast?_eq_getLast_of_ne_nil (List.cons_ne_nil y ys)]
    rfl

/-- A record whose chain is computed over the last one keeps the chain (R147). -/
theorem chainedFrom_append {l : BitVec 16} {rs : List JournalRec} {r : JournalRec} (h : chainedFrom l rs)
    (hr : r.chain = crc16 ((rs.getLast?.map JournalRec.chain).getD l) (recordBytes r.serial r.date r.second r.body)) :
    chainedFrom l (rs ++ [r]) := by
  induction rs generalizing l with
  | nil => exact ⟨hr, trivial⟩
  | cons x xs ih =>
    exact ⟨h.1, ih h.2 (by rw [← lastChain_cons l]; exact hr)⟩

/-- Dropping the lowest serials moves the anchor and keeps the chain (R147, R150). -/
theorem chainedFrom_filter {l : BitVec 16} {rs : List JournalRec} (h : chainedFrom l rs)
    (ha : (rs.map JournalRec.serial).Pairwise (· < ·)) (u : Nat) :
    chainedFrom (((rs.filter (fun r => decide (r.serial < u))).getLast?.map JournalRec.chain).getD l)
      (rs.filter (fun r => decide (u ≤ r.serial))) := by
  induction rs generalizing l with
  | nil => trivial
  | cons x xs ih =>
    simp only [List.map_cons, List.pairwise_cons, List.mem_map, forall_exists_index, and_imp, forall_apply_eq_imp_iff₂] at ha
    by_cases hx : x.serial < u
    · rw [List.filter_cons_of_pos (by simpa using hx), List.filter_cons_of_neg (by simpa using hx), lastChain_cons]
      exact ih h.2 ha.2
    · have h0 : xs.filter (fun r => decide (r.serial < u)) = [] := by
        rw [List.filter_eq_nil_iff]
        intro r hr
        have := ha.1 r hr
        simp; omega
      have h1 : xs.filter (fun r => decide (u ≤ r.serial)) = xs := by
        rw [List.filter_eq_self]
        intro r hr
        have := ha.1 r hr
        simp; omega
      rw [List.filter_cons_of_neg (by simpa using hx), List.filter_cons_of_pos (by simp; omega), h0, h1]
      simpa using h

/-- Appending a record under the next serial keeps the journal lawful. -/
theorem Journal.append_lawful {j : Journal} (h : j.Lawful) {n : Nat} (hn : j.nextSerial = some n) (hm : n ≤ 16777215)
    (hf : 1 ≤ j.free) (x : Date) (s : Nat) (b : RecordBody) : (j.append n x s b).Lawful := by
  have hlt : ∀ r ∈ j.records, r.serial < n := by
    intro r hr
    obtain ⟨h1, e1, l1⟩ := h.issued r hr
    obtain ⟨n1, e2, l2⟩ := h.next h1 e1
    rw [hn] at e2; cases e2; omega
  refine ⟨h.partition, ?_, ?_, ?_, ?_, ?_, chainedFrom_append h.chained rfl⟩
  · have := h.fits
    simp only [Journal.append, List.length_append, List.length_singleton, Journal.free] at *
    omega
  · simp only [Journal.append, List.map_append, List.pairwise_append]
    refine ⟨h.ascending, by simp, ?_⟩
    intro a ha b hb
    obtain ⟨r, hr, rfl⟩ := List.mem_map.1 ha
    simp [Journal.nextRecord] at hb
    subst hb
    exact hlt r hr
  · intro r hr
    simp only [Journal.append, List.mem_append, List.mem_singleton] at hr ⊢
    refine ⟨n, rfl, ?_⟩
    rcases hr with hr | rfl
    · exact (hlt r hr).le
    · exact le_refl n
  · intro k hk
    simp only [Journal.append, Option.some.injEq] at hk ⊢
    exact ⟨n + 1, rfl, by omega⟩
  · intro k hk
    simp only [Journal.append, Option.some.injEq] at hk
    omega

/-- Releasing a prefix keeps the journal lawful. -/
theorem Journal.released_lawful {j : Journal} (h : j.Lawful) (u : Nat) : (j.released u).Lawful := by
  have hs : (j.from (u+1)).Sublist j.records := List.filter_sublist
  exact ⟨h.partition, hs.length_le.trans h.fits, h.ascending.sublist (hs.map _), fun r hr => h.issued r (hs.subset hr), h.next, h.bound, chainedFrom_filter h.chained h.ascending _⟩

/-- What `appendRecord` does to the journal. -/
@[simp] theorem Device.appendRecord_journal (d : Device) (n b) : (d.appendRecord n b).journal = d.journal.append n d.today d.now b := by
  simp [Device.appendRecord]

/-- What issuing a ticket does to the journal: one sale record. -/
theorem issueTicket_journal (d : Device) (k q c pay n) : (d.issueTicket k q c pay n).journal = d.journal.append n d.today d.now (.sale (q.saleFields pay)) := by
  simp [Device.issueTicket]

end Sys2Proof.Machine
end

