-- ==== Sys2Proof/Laws/Notices.lean ====
section
/-!
SUPPORT. What the operations over the notice store do to the numbers it holds.
-/

namespace Sys2Proof.Machine

/-- Inserting adds one element. -/
theorem insertBy_length {α : Type} (b : α → α → Bool) (x : α) (l : List α) : (insertBy b x l).length = l.length + 1 := by
  induction l with
  | nil => rfl
  | cons y ys ih => simp only [insertBy]; split <;> simp [ih]

/-- What is in a list after an insertion. -/
theorem mem_insertBy {α : Type} {b : α → α → Bool} {x y : α} {l : List α} : y ∈ insertBy b x l ↔ y = x ∨ y ∈ l := by
  induction l with
  | nil => simp [insertBy]
  | cons z zs ih => simp only [insertBy]; split <;> simp [ih]; tauto

/-- Inserting by a key that is not there keeps the keys rising. -/
theorem insertBy_ascending {α : Type} (key : α → Nat) {x : α} {l : List α} (h : (l.map key).Pairwise (· < ·))
    (hx : ∀ y ∈ l, key y ≠ key x) : ((insertBy (fun a b => decide (key a < key b)) x l).map key).Pairwise (· < ·) := by
  induction l with
  | nil => simp [insertBy]
  | cons y ys ih =>
    simp only [List.map_cons, List.pairwise_cons, List.mem_map, forall_exists_index, and_imp, forall_apply_eq_imp_iff₂] at h
    simp only [insertBy]
    split
    · rename_i hlt
      simp only [decide_eq_true_eq] at hlt
      simp only [List.map_cons, List.pairwise_cons, List.mem_cons, List.mem_map, forall_eq_or_imp, forall_exists_index, and_imp, forall_apply_eq_imp_iff₂]
      exact ⟨⟨hlt, fun a ha => hlt.trans (h.1 a ha)⟩, h⟩
    · rename_i hlt
      simp only [decide_eq_true_eq, not_lt] at hlt
      simp only [List.map_cons, List.pairwise_cons, List.mem_map, forall_exists_index, and_imp, forall_apply_eq_imp_iff₂]
      refine ⟨fun a ha => ?_, ih h.2 (fun z hz => hx z (List.mem_cons_of_mem _ hz))⟩
      rcases mem_insertBy.1 ha with rfl | ha
      · exact lt_of_le_of_ne hlt (hx y List.mem_cons_self)
      · exact h.1 a ha

/-- A notice found by its number is stored and has that number. -/
theorem NoticeStore.find?_mem {ns : NoticeStore} {k : Nat} {n : Notice} (h : ns.find? k = some n) : n ∈ ns.items ∧ n.number = k := by
  unfold NoticeStore.find? at h
  exact ⟨List.mem_of_find?_eq_some h, by simpa using List.find?_some h⟩

/-- Showing or hiding a notice keeps the numbers stored. -/
theorem setShown_numbers (d : Device) (n b) : (d.setShown n b).notices.items.map Notice.number = d.notices.items.map Notice.number := by
  unfold Device.setShown
  split
  · rfl
  · simp only [Device.when_notices, Device.noticeCue_frame, ite_self, Device.recompose_frame, Device.setNotices, List.map_map]
    apply List.map_congr_left
    intro a _; simp only [Function.comp]; split <;> rfl

/-- A canned notice shown keeps the numbers stored. -/
theorem showCanned_numbers (d : Device) (k b) : (d.showCanned k b).notices.items.map Notice.number = d.notices.items.map Notice.number := by
  unfold Device.showCanned
  split
  · rfl
  · split
    · exact setShown_numbers _ _ _
    · rfl

/-- A line notice keeps the numbers stored. -/
theorem lineNotice_numbers (d : Device) (data) : (d.lineNotice data).notices.items.map Notice.number = d.notices.items.map Notice.number := by
  unfold Device.lineNotice
  (repeat' split) <;> first | rfl | exact showCanned_numbers _ _ _

/-- The notices of a minute are only dropped. -/
theorem noticeMinute_sub (d : Device) : (d.noticeMinute.notices.items.map Notice.number).Sublist (d.notices.items.map Notice.number) := by
  unfold Device.noticeMinute
  rw [Device.forAll_keep (fun e => e.notices) _ (fun _ _ => rfl) (fun _ _ _ => by simp)]
  simp only [Device.when_notices, Device.recompose_frame, ite_self, Device.setNotices, Device.noticesJudged, List.map_map]
  have : (Notice.number ∘ Notice.judged d.moment) = Notice.number := rfl
  rw [this]
  exact List.filter_sublist.map _

end Sys2Proof.Machine
end

