-- ==== Sys2Proof/Laws/Taking.lean ====
section
/-!
SUPPORT. What a command period does on a port that takes it: the tests passed, the owning block's body runs and its response
is in hand; and how the answers of the blocks read in the terms of Safety.lean.
-/

namespace Sys2Proof.Machine

@[simp] theorem Ports.set_set (ps : Ports) (p : PortId) (x y : Port) : (ps.set p x).set p y = ps.set p y := by
  cases p <;> rfl

@[simp] theorem Device.port_setPort (d : Device) (p : PortId) (x : Port) : (d.setPort p x).port p = x := by
  cases p <;> rfl

@[simp] theorem Device.setPort_setPort (d : Device) (p : PortId) (x y : Port) :
    (d.setPort p x).setPort p y = d.setPort p y := by
  cases p <;> rfl

theorem Device.setPort_ports (d : Device) (p : PortId) (x : Port) : (d.setPort p x).ports = d.ports.set p x := rfl

/-- The bytes clocked out do not reach the expiry test of the quote slots. -/
theorem Device.atCommand_clockOut (d : Device) (p : PortId) (bs : List Byte) :
    (d.clockOut p bs).when (p == .sale) Device.closeExpired = (d.atCommand p).clockOut p bs := by
  cases p <;> rfl

/-- A port that takes a command leaves the test of its state behind (R188). -/
theorem Device.inIdle_of_takes {d : Device} {p : PortId} (h : d.takes p) (n : Nat) (k : Device → Device) :
    d.inIdle p n k = k (d.clockOut p (List.replicate n 0)) := by
  have h1 : d.phase ≠ .off := by rw [h.1]; decide
  have h2 : d.idle p = true := by simp [Device.idle, h.2]
  simp [Device.inIdle, h1, h2]

/-- A command period that passes the five tests (R189). -/
theorem Device.commandPeriod_of_takes {d : Device} {p : PortId} {c : Cmd} {ps : List Byte} (h : d.takes p)
    (hl : ps.length ≤ 62) (hr : c.permitted p = true) (hk : c.lengthOk ps = true) (k : Device → Device) :
    d.commandPeriod p c ps k = k (d.clockOut p (List.replicate (ps.length + 3) 0)) := by
  have h1 : ¬ 62 < ps.length := by omega
  simp [Device.commandPeriod, Device.inIdle_of_takes h, Device.tested, Device.lengthTested, h1, hr, hk]

/-- A command that passes the five tests is carried out by its owning block, and its response is in hand (R189, R191). -/
theorem Device.commanded_of_takes {d : Device} {p : PortId} {c : Cmd} {ps : List Byte} (h : d.takes p)
    (hl : ps.length ≤ 62) (hr : c.permitted p = true) (hk : c.lengthOk ps = true) (body : Device → Device × Reply) :
    d.commanded p c ps body =
      (body ((d.atCommand p).clockOut p (List.replicate (ps.length + 3) 0))).1.hold p
        ((body ((d.atCommand p).clockOut p (List.replicate (ps.length + 3) 0))).2.response c) := by
  rw [Device.commanded, Device.commandPeriod_of_takes h hl hr hk, Device.carryOut, Device.atCommand_clockOut]

/-- The response to a failed test of a command period, placed at once (R189). -/
theorem State.ready_of_placeError (s : State) (p : PortId) (n : Nat) (b : Byte) (st : Status) :
    { s with dev := (s.dev.clockOut p (List.replicate n 0)).placeError p b st } =
      s.ready p n { cmd := b, status := st, data := [], segmented := false } := by
  cases p <;> rfl

end Sys2Proof.Machine
end

