-- ==== Sys2Proof/WellFormed.lean ====
section
/-!
DEFINITION. Which operands a row can carry on the wire: a check for each, as a Bool.
An ill-formed command still has a meaning (the ports and the line discard or answer it); the check says which commands a
master or a station can send at all.
-/

namespace Sys2Proof

/-- LEN lies in 2 to 64, so a command carries at most 62 parameter bytes (R189, R203). -/
def paramsFit (ps : List Byte) : Bool := decide (ps.length ≤ 62)

/-- A line frame carries 0 to 8 data bytes (R32). -/
def dataFit (data : List Byte) : Bool := decide (data.length ≤ 8)

/-- Data of a SERVICE frame that no action row stands for: fewer than two bytes, or an action code other than CANCEL 1,
REINSTATE 2 and PLATFORM 3 (R65, R203). -/
def touchOnlyData : List Byte → Bool
  | [] => true
  | [_] => true
  | a :: _ :: _ => a != 1 && a != 2 && a != 3

/-- A command period: at least one byte is clocked in, and the first is not 0 (R188). -/
def isCommandPeriod : List Byte → Bool
  | [] => false
  | b :: _ => b != 0

/-- The operands of the command fit the wire it comes on. -/
def Instr.wellFormed : Instr → Bool
  | .quote _ ps | .issue _ ps | .void _ ps | .cancelQuote _ ps | .readPage _ ps | .takeCue _ ps
  | .reportScreen _ ps | .readDepartures _ ps | .readNotify _ ps | .setNotifyMask _ ps
  | .stagePutDest _ ps | .stagePutCall _ ps | .stagePutFare _ ps | .stagePutRules _ ps
  | .changeoverSet _ ps | .applyNow _ ps | .putNotice _ ps | .removeNotice _ ps | .showNotice _ ps
  | .hideNotice _ ps | .setFilter _ ps | .setHalt _ ps | .setScreen _ ps | .setGroup _ ps
  | .setTime _ ps | .setSerialBase _ ps | .setPartition _ ps | .readJournal _ ps | .release _ ps
  | .openSales _ ps | .closeSales _ ps | .restartLine _ ps | .restart _ ps | .readStatus _ ps => paramsFit ps
  | .stageBeginTimetable _ ps | .stageBeginFares _ ps
  | .stageCloseTimetable _ ps | .stageCloseFares _ ps => paramsFit (0 :: ps)
  | .unknownCommand _ bytes => isCommandPeriod bytes
  | .readPeriod _ n => decide (1 ≤ n)
  | .runFrame _ _ data | .timemark _ _ data | .stopack _ _ data | .linenotice _ _ data
  | .lineFrameDiscarded _ _ _ data => dataFit data
  | .cancel _ _ rest | .reinstate _ _ rest | .platform _ _ rest => dataFit (0 :: rest)
  | .serviceFrameTouchOnly _ _ data => dataFit data && touchOnlyData data
  | .responsePlaced _ | .powerOn | .resetInput | .startEnd _ | .attemptStart | .attemptAcknowledged
  | .attemptNotAcknowledged | .secondAdvance | .minuteTick | .sweepTick | .dayBoundary | .syncAgeExpiry
  | .candidateWindowClose | .delayExpiry | .quoteExpiry | .noticeExpiry | .buttonPress _ | .buttonRelease _
  | .powerLoss | .lampFlash _ => true

end Sys2Proof
end

