-- ==== Sys2Proof/Tests/Slice0.lean ====
section
/-!
SUPPORT. Small tests: ill-formed operands that WellFormed refuses, worked values of the spec, one step of each family of
commands, and a witness for the hypotheses of each statement in Certificates/Slice0/Obligations.lean.
-/

open Sys2Proof Sys2Proof.Machine

namespace Sys2Proof.Tests

/-! ## Well-formed and ill-formed operands (R32, R188, R189, R203) -/

theorem test_params_of_62_bytes_fit : (Instr.putNotice .office (List.replicate 62 0)).wellFormed = true := by decide

theorem test_params_of_63_bytes_refused : (Instr.putNotice .office (List.replicate 63 0)).wellFormed = false := by decide

theorem test_stage_begin_of_62_bytes_refused : (Instr.stageBeginFares .office (List.replicate 62 0)).wellFormed = false := by
  decide

theorem test_frame_of_9_data_bytes_refused : (Instr.runFrame 1 1 (List.replicate 9 0)).wellFormed = false := by decide

theorem test_action_row_of_8_rest_bytes_refused : (Instr.cancel 1 1 (List.replicate 8 0)).wellFormed = false := by decide

theorem test_touch_only_with_an_action_refused : (Instr.serviceFrameTouchOnly 1 1 [3, 2]).wellFormed = false := by decide

theorem test_touch_only_with_unknown_action_fits : (Instr.serviceFrameTouchOnly 1 1 [4, 2]).wellFormed = true := by decide

theorem test_empty_command_period_refused : (Instr.unknownCommand .sale []).wellFormed = false := by decide

theorem test_command_period_of_first_byte_0_refused : (Instr.unknownCommand .sale [0, 1]).wellFormed = false := by decide

theorem test_read_period_of_no_byte_refused : (Instr.readPeriod .sale 0).wellFormed = false := by decide

/-- The table gives no row any bits (log 21). -/
theorem test_no_table_word_decodes : decodeTableWord 8 1 = none ∧ (State.reset.withFetchWord 8 1) = State.reset := by decide

/-! ## A small machine -/

/-- The state a command answers. -/
def after (i : Instr) (s : State) : Device :=
  match exec i s with
  | .next t => t.dev
  | .fault _ | .refused _ => s.dev

/-- The response a command has in hand or has placed at once. -/
def answer (i : Instr) (p : PortId) (s : State) : Option Response :=
  ((after i s).port p).inHand.or ((after i s).port p).buffer

def idlePort (mask : Byte) : Port :=
  { mode := .idle, inHand := none, buffer := none, segment := 0, assembly := none, notify := 0, mask := mask, lastOut := [] }

/-- The part of the worked sequences: idle ports, own point 1190, clock SYNCED on Tuesday 20000 at 30200, default ACCEPT. -/
def part : Device :=
  { Device.cold .power with
    clock := { date := 20000, second := 30200, state := .synced, syncAge := 0, candidate := none,
               dueMinute := 0, dueSweep := 0, dueDay := 0 }
    line := { (Device.cold .power).line with defaultAction := .accept }
    halt := { HaltSettings.cold with ownPoint := 1190, fareCode := 17 }
    ports := { sale := idlePort 7, board := idlePort 3, office := idlePort 31 } }

def at' (d : Device) : State := { dev := d, pending := [] }

/-- Train 2417 of the worked life (chapter 4). -/
def call2417 : CallRec :=
  { train := 2417, direction := .down, kind := .request, platform := 2, days := 127, schedArr := 31200, schedDep := 31230
    dest := 0, route := [⟨1140, 29700, 240⟩, ⟨1146, 30600, 120⟩, ⟨1151, 30960, 0⟩], cutoff := some 2, approach := some 3 }

def bank412 : TimetableBank := { id := some 412, names := [ascii "Tarn"], calls := [call2417], state := .ready }

def tabled : Device := { part with tt := { part.tt with active := bank412 } }

/-- The status and data of a command's response. -/
def told (i : Instr) (p : PortId) (s : State) : Option (Status × List Byte) :=
  (answer i p s).map (fun r => (r.status, r.data))

/-- Train 2417 after its report at 1140 (chapter 5). -/
def entry2417 : Entry :=
  { Entry.fresh 2417 20000 (some ⟨call2417, ascii "Tarn"⟩) with
    state := .running, lastIndex := some 1, lastEvent := some .passed, lastTime := some 30150, delay := some 450
    forecast := some ⟨210, 31410, 31440⟩ }

/-- The worked part with some running entries. -/
def withEntries (es : List Entry) : Device := { tabled with table := { tabled.table with entries := es } }

/-- The rules and the destination of the worked prices (chapter 7). -/
def rules30 : FareRules :=
  { returnFactor := 1800, dayFactor := 2600, childFactor := 500, concessionFactor := 667, peakFactor := 1250
    groupThreshold := 3, groupDiscount := 100, capSingle := 0, capReturn := 0, capDay := 3500
    windows := [⟨31, 14400, 21600⟩, ⟨31, 54000, 57600⟩] }

def dest214 : FareDest := { code := 214, name := ascii "Ostra", base := 1240, validity := 7 }

def bank30 : FareBank := { id := some 30, dests := [dest214], rules := some rules30, state := .ready }

def quote42 : Quote :=
  { number := 42, destCode := 214, destName := ascii "Ostra", type := .returnT, cls := .adult, count := 2
    train := some 2417, generation := 6, band := .offPeak, price := 4460, date := 20000, expiry := 30250
    requestStop := true, later := false }

/-- The worked part with sales open, at N (chapter 7). -/
def sellingAt (n : Nat) : Device :=
  { withEntries [entry2417] with
    clock := { part.clock with second := n }
    fares := { part.fares with active := bank30, generation := 6 }
    journal := { part.journal with nextSerial := some 90113, highest := some 90112 }
    sale := { part.sale with nextQuote := 41, state := .isOpen }
    notices := { part.notices with sn1 := false, sn3 := false } }

/-! ## Worked values -/

/-- Worked prices: three children on a return by a peak train, two adults on a capped day ticket, one concession single. -/
theorem test_worked_prices :
    (1400 = rules30.fare 1240 .returnT .child .peak ∧ rules30.discount 4200 3 = 420) ∧
    (rules30.fare 1240 .day .adult .peak = 3500 ∧ rules30.discount 7000 2 = 0) ∧
    rules30.fare 1240 .single .concession .offPeak = 830 ∧ rules30.band 20000 16200 = .peak ∧
    rules30.band 20000 31000 = .offPeak := by decide

/-- The worked filter set: filter 0 takes STOPACK for 1190 alone, filter 1 kinds 1 and 3 but not 5 and 7. -/
theorem test_worked_filters :
    let f0 : Filter := { enabled := true, code := 167773350, mask := 503318527, action := .accept }
    let f1 : Filter := { enabled := true, code := 33554432, mask := 436207616, action := .accept }
    let id (k p : Nat) : BitVec 29 :=
      (LineFrame.mk (BitVec.ofNat 4 k) 2417 (BitVec.ofNat 11 p) []).ident
    f0.Matches (id 5 1190) ∧ ¬ f0.Matches (id 5 1191) ∧ f1.Matches (id 1 1140) ∧ f1.Matches (id 3 0) ∧
      ¬ f1.Matches (id 5 1190) ∧ ¬ f1.Matches (id 7 1190) := by
  unfold Filter.Matches; decide

/-- The CRC-8 of polynomial 0x2F from 0xFF over one byte 0, by hand: FF eight times through the register (R193). -/
theorem test_crc8_of_zero : crc8 [0] = 0x42 := by decide

/-- The CRC-16 of polynomial 0x1021 from 0x0000 over one byte 1 is the polynomial itself (R141). -/
theorem test_crc16_of_one : crc16 0 [1] = 0x1021 := by decide

/-! ## Commands of the ports -/

/-- Quote 41 of the worked sequence: p 1240, price 2480, OFF-PEAK, generation 6, expiry 30220 (11:23:40), request stop. -/
theorem test_quote : told (.quote .sale [0, 214, 1, 1, 2, 9, 113]) .sale (at' (sellingAt 30100)) =
    some (.ok, [4, 41] ++ be24 1240 ++ be24 0 ++ be24 2480 ++ [2, 6] ++ be24 41020 ++ [1, 0, 0]) := by decide

/-- A wrong amount for quote 42 is AMOUNT_MISMATCH with the price 4460. -/
theorem test_issue_amount_mismatch :
    let d := sellingAt 30160
    told (.issue .sale ([42] ++ be24 4400 ++ [1])) .sale (at' { d with sale := { d.sale with slotB := some quote42 } }) =
      some (.refused, [4, 11] ++ be24 4460) := by decide

set_option maxRecDepth 4000 in
/-- ISSUE 42 of the worked sequence: serial 90113, a request PENDING of 2 passengers with sale watch. -/
theorem test_issue :
    let d := sellingAt 30170
    let t := after (.issue .sale ([42] ++ be24 4460 ++ [1])) (at' { d with sale := { d.sale with slotB := some quote42 } })
    (t.sale.slotB, t.sale.lastSale.map LastSale.serial, t.journal.nextSerial) = (none, some 90113, some 90114) ∧
      (t.entry? 2417).map (fun e => (e.stop, e.waiting, e.saleWatch)) = some (.pending, 2, true) := by decide

def sale90113 : LastSale :=
  { serial := 90113, date := 20000, second := 30170, price := 4460, pay := .cash, train := none, count := 2, voided := false }

def record90113 : JournalRec :=
  { serial := 90113, date := 20000, second := 30170, chain := 0
    body := .sale { destCode := 214, type := .returnT, cls := .adult, count := 2, price := 4460, pay := .cash
                    train := some 2417, generation := 6 } }

/-- The worked part after the sale of 90113, at N. -/
def soldAt (n : Nat) : Device :=
  let d := sellingAt n
  { d with
    sale := { d.sale with lastSale := some sale90113 }
    journal := { d.journal with records := [record90113], nextSerial := some 90114, highest := some 90113 } }

/-- A VOID of 90113 is taken up to N 30230 and refused from 30231. -/
theorem test_void :
    (told (.void .sale (be24 90113)) .sale (at' (soldAt 30230))).map Prod.fst = some .ok ∧
      told (.void .sale (be24 90113)) .sale (at' (soldAt 30231)) = some (.refused, [4, 15]) := by decide

theorem test_cancel_quote :
    let d := sellingAt 30250
    let s := at' { d with sale := { d.sale with slotB := some quote42 } }
    (after (.cancelQuote .sale [42]) s).sale.slotB = none ∧
      told (.cancelQuote .sale [43]) .sale s = some (.refused, [4, 9]) := by decide

/-- READ_PAGE of a disabled screen after a start: page 1, blank. -/
theorem test_read_page : (told (.readPage .board [5]) .board (at' part)).map (fun x => (x.1, x.2.take 4)) =
    some (.ok, [5, 0, 1, 1]) := by decide

def cueOf (train priority : Nat) : Cue :=
  { kind := .delayed, train := some train, platform := none, notice := none, priority := priority, second := 30200 }

/-- The cue taken is a DELAYED cue of train 2433, and one more is left. -/
theorem test_take_cue :
    told (.takeCue .board []) .board (at' { part with cues := [cueOf 2433 1, cueOf 2441 2] }) =
      some (.ok, [3, 9, 129, 0, 0, 1] ++ be24 30200 ++ [1]) := by decide

theorem test_report_screen : ((after (.reportScreen .board [2, 2]) (at' part)).board.screens.map Screen.health) =
    [.ok, .ok, .fault, .ok, .ok, .ok] := by decide

/-- A train with neither an entry nor a call today has no departure. -/
theorem test_read_departures_of_no_train :
    told (.readDepartures .office [2, 8, 0, 1]) .office (at' tabled) = some (.ok, []) := by decide

theorem test_read_notify_clears :
    let s := at' (part.setFlag .lineChanged)
    told (.readNotify .office []) .office s = some (.ok, [2, 31]) ∧
      ((after (.readNotify .office []) s).hasFlag .lineChanged) = false := by decide

theorem test_set_notify_mask : ((after (.setNotifyMask .board [255]) (at' part)).port .board).mask = 3 := by decide

theorem test_stage_begin_timetable : (after (.stageBeginTimetable .office [1, 157]) (at' part)).tt.staged =
    { id := some 413, names := [], calls := [], state := .loading } := by decide

theorem test_stage_begin_fares_in_timing :
    told (.stageBeginFares .office [0, 31]) .office (at' { part with co := { part.co with unit := .timing } }) =
      some (.refused, [20]) := by decide

def loading : Device :=
  { part with tt := { part.tt with staged := { TimetableBank.cleared with id := some 413, state := .loading } }
              fares := { part.fares with staged := { FareBank.cleared with id := some 31, state := .loading } } }

theorem test_stage_put_dest : (after (.stagePutDest .office (beText (ascii "Tarn"))) (at' loading)).tt.staged.names =
    [ascii "Tarn"] := by decide

set_option maxRecDepth 4000 in
/-- The bytes of train 2417's call by the layout of R203, stored whole. -/
theorem test_stage_put_call :
    (after (.stagePutCall .office
      ([9, 113, 2, 2, 2, 127] ++ be24 31200 ++ be24 31230 ++ [0, 3, 2, 3, 4, 116] ++ be24 29700 ++ [0, 240, 4, 122]
        ++ be24 30600 ++ [0, 120, 4, 127] ++ be24 30960 ++ [0, 0])) (at' loading)).tt.staged.calls = [call2417] := by decide

theorem test_stage_put_fare : (after (.stagePutFare .office ([0, 214, 4, 216, 7] ++ beText (ascii "Ostra"))) (at' loading)).fares.staged.dests
    = [dest214] := by decide

set_option maxRecDepth 4000 in
theorem test_stage_put_rules :
    (after (.stagePutRules .office
      (be16 1800 ++ be16 2600 ++ be16 500 ++ be16 667 ++ be16 1250 ++ [3, 0, 100] ++ be24 0 ++ be24 0 ++ be24 3500 ++ [2, 31]
        ++ be24 14400 ++ be24 21600 ++ [31] ++ be24 54000 ++ be24 57600)) (at' loading)).fares.staged.rules = some rules30 := by
  decide

theorem test_stage_close_timetable_wrong_count :
    told (.stageCloseTimetable .office [1]) .office (at' loading) = some (.ok, [4, 0, 0, 1, 0, 0, 0]) := by decide

theorem test_stage_close_fares_without_rules :
    told (.stageCloseFares .office [0]) .office (at' loading) = some (.ok, [4, 0, 0, 1]) := by decide

/-- CHANGEOVER_SET of the worked sequence: LAST_CALL_DONE, delay 900, skip 0, REPLACE and REPLACE. -/
theorem test_changeover_set :
    let t := after (.changeoverSet .office [2, 3, 132, 0, 2, 2]) (at' tabled)
    (t.co.unit, t.co.armed, t.co.onLastCall, t.co.delay, t.co.skipCount) = (.armed, true, true, 900, 0) := by decide

/-- An apply mode code of 0 or 4 is out of range (R176, R204). -/
theorem test_changeover_set_bad_mode :
    told (.changeoverSet .office [0, 0, 0, 0, 0, 1]) .office (at' part) = some (.badParam, []) ∧
      told (.changeoverSet .office [0, 0, 0, 0, 1, 4]) .office (at' part) = some (.badParam, []) := by decide

theorem test_apply_now_disarmed : told (.applyNow .office []) .office (at' part) = some (.refused, [21]) := by decide

/-- A REPLACE of a READY timetable: 412 becomes ACTIVE and the STAGED bank EMPTY. -/
theorem test_apply_now :
    let t := after (.applyNow .office []) (at' { part with tt := { part.tt with staged := bank412 }
                                                           co := { part.co with unit := .armed, armed := true, ttMode := .replace } })
    (t.tt.active.id, t.tt.staged.state, t.co.unit) = (some 412, .empty, .disarmed) := by decide

set_option maxRecDepth 4000 in
/-- Notice 41 with no window, in one part. -/
theorem test_put_notice :
    (after (.putNotice .office ([128, 41, 1, 1, 2, 1, 0] ++ List.replicate 10 255 ++ beText (ascii "Late"))) (at' part)).notices.items.map
      (fun n => (n.number, n.target, n.text, n.inWindow)) = [(41, 2, ascii "Late", true)] := by
  decide

def notice41 : Notice :=
  { number := 41, kind := .canned, priority := 1, target := 2, form := .ticker, announce := false, text := ascii "Late"
    showFrom := none, showUntil := none, shown := false, inWindow := true }

def noticed : Device := { part with notices := { part.notices with items := [notice41] } }

theorem test_remove_notice : (after (.removeNotice .office [41]) (at' noticed)).notices.items = [] := by decide

theorem test_show_notice : (after (.showNotice .office [41]) (at' noticed)).notices.items = [{ notice41 with shown := true }] := by
  decide

theorem test_hide_notice_of_no_number : told (.hideNotice .office [42]) .office (at' noticed) = some (.badParam, []) := by decide

/-- Filter 0 of the worked filter set. -/
theorem test_set_filter : (after (.setFilter .office ([0, 1] ++ be32 167773350 ++ be32 503318527 ++ [1])) (at' part)).line.filters.head? =
    some { enabled := true, code := 167773350, mask := 503318527, action := .accept } := by decide

theorem test_set_halt_name_of_25 :
    told (.setHalt .office ([4, 166, 25] ++ List.replicate 25 65 ++ [0, 17, 30, 0, 120, 24, 0, 96, 1])) .office (at' part) =
      some (.badParam, [2]) := by decide

theorem test_set_screen : ((after (.setScreen .office [0, 1, 3]) (at' part)).board.screens.head?).map (fun x => (x.enabled, x.groups, x.seq)) =
    some (true, 3, 2) := by decide

set_option maxRecDepth 4000 in
/-- G1 of the worked sharing: train 2417 of platform 2 enters the list of a group of that platform. -/
theorem test_set_group : (after (.setGroup .office [2, 2]) (at' tabled)).board.lists = [[], [], [⟨2417, 31230⟩], []] := by decide

/-- The step across 03:00 of the worked sequence: one day boundary, one sweep tick, one minute tick. -/
theorem test_set_time_across_three :
    let s := at' { part with clock := { part.clock with second := 86380, state := .free } }
    let t := after (.setTime .office (be16 20001 ++ be24 130)) s
    (t.clock.state, t.clock.dueDay, t.clock.dueSweep, t.clock.dueMinute) = (.synced, 1, 1, 1) ∧
      told (.setTime .office (be16 20001 ++ be24 130)) .office s = some (.ok, be16 20000 ++ be24 86380 ++ [3]) := by decide

theorem test_set_serial_base : (after (.setSerialBase .office (be24 90112)) (at' part)).journal.nextSerial = some 90112 := by decide

/-- SET_PARTITION(24) of the worked sequence: free 192. -/
theorem test_set_partition : told (.setPartition .office [24]) .office (at' part) = some (.ok, [24, 0, 192, 40]) := by decide

theorem test_read_journal : (told (.readJournal .office [0, 0, 0]) .office (at' (soldAt 30200))).map (fun x => (x.1, x.2.take 8)) =
    some (.ok, [1, 0, 0, 0, 0, 1, 1, 127]) := by decide

theorem test_release_above_the_tail : told (.release .office (be24 90114)) .office (at' (soldAt 30200)) =
    some (.badParam, be24 90113) := by decide

theorem test_close_sales :
    let t := after (.closeSales .office []) (at' (sellingAt 30200))
    (t.sale.state, t.notices.sn1, t.hasFlag .salesStateChanged) = (.closed, true, true) := by decide

theorem test_open_sales :
    let d := sellingAt 30200
    (after (.openSales .office []) (at' { d with sale := { d.sale with closedFlag := true, state := .closed } })).sale.state =
      .isOpen := by decide

def frame2417 : TxFrame := { train := 2417, point := 1190, waiting := 3, failed := 0, begun := false, later := false }

theorem test_restart_line :
    told (.restartLine .office []) .office (at' { part with line := { part.line with slot0 := some frame2417, state := .down } }) =
      some (.ok, [1, 2]) := by decide

theorem test_restart : (after (.restart .office []) (at' part)).phase = .starting .restart := by decide

/-- Section 1 of the status: date 20000, second 30200, SYNCED, age 0, no candidate. -/
theorem test_read_status : told (.readStatus .office [1]) .office (at' part) =
    some (.ok, be16 20000 ++ be24 30200 ++ [2, 0, 0, 0] ++ List.replicate 6 255) := by decide

/-- Section 6 after an empty table: both button states, both chosen trains, both lamp modes (R95, R202). -/
theorem test_read_status_buttons :
    let up : Button := { state := .pressed, chosen := some 2417, lamp := .flashing, lit := true }
    (told (.readStatus .office [6]) .office (at' { part with sru := { part.sru with up := up } })).map (fun x => x.2.take 10) =
      some [0, 0, 2, 1, 9, 113, 0, 0, 3, 1] := by decide

theorem test_not_permitted : told (.setGroup .sale [0, 1]) .sale (at' part) = some (.notPermitted, []) := by decide

set_option maxRecDepth 4000 in
theorem test_unknown_command : told (.unknownCommand .sale [2, 99, crc8 [2, 99]]) .sale (at' part) =
    some (.unknownCommand, []) := by decide

/-- The worked transaction: the start response is read, and the port is IDLE. -/
theorem test_read_period :
    let t := after (.readPeriod .sale 100) State.reset
    ((t.port .sale).mode, (t.port .sale).lastOut.take 5) = (.idle, [5, 0, 0, 1, 1]) := by decide

theorem test_response_placed :
    let d := after (.readNotify .sale []) (at' part)
    d.readyLine .sale = false ∧ (after (.responsePlaced .sale) (at' d)).readyLine .sale = true := by decide

/-! ## Starts -/

theorem test_power_on : (after .powerOn (at' { part with phase := .off })).phase = .starting .power := by decide

theorem test_reset_input : (after .resetInput (at' part)).phase = .starting .resetInput := by decide

theorem test_power_loss : (after .powerLoss (at' part)).phase = .off := by decide

/-- A warm start keeps the timetable and leaves a SYNCED clock FREE; the start response tells WARM, RESTART. -/
theorem test_start_end :
    let t := after (.startEnd true) (at' { tabled with phase := .starting .restart })
    (t.tt.active, t.clock.state, (t.port .sale).buffer.map Response.data) = (bank412, .free, some [2, 3]) := by decide

/-! ## Line frames -/

set_option maxRecDepth 4000 in
/-- The first two rows of the worked life of train 2417, with the forecasts of chapter 5. -/
theorem test_run_frame :
    ((after (.runFrame 2417 1140 ([1] ++ be24 30150 ++ [32])) (at' tabled)).entry? 2417).map
      (fun e => (e.state, e.delay, e.forecast)) = some (.running, some 450, some ⟨210, 31410, 31440⟩) ∧
    ((after (.runFrame 2417 1146 ([1] ++ be24 30900 ++ [32])) (at' (withEntries [entry2417]))).entry? 2417).map
      (fun e => (e.lastIndex, e.delay, e.forecast)) = some (some 2, some 300, some ⟨180, 31380, 31410⟩) := by decide

theorem test_cancel : ((after (.cancel 2417 0 [0]) (at' (withEntries [entry2417]))).entry? 2417).map
    (fun e => (e.state, e.beforeCancel)) = some (.cancelled, some .running) := by decide

set_option maxRecDepth 4000 in
theorem test_reinstate :
    ((after (.reinstate 2417 0 [0]) (at' (withEntries [{ entry2417 with state := .cancelled, beforeCancel := some .running }]))).entry? 2417).map
      (fun e => (e.state, e.beforeCancel)) = some (.running, none) := by decide

theorem test_platform :
    let t := after (.platform 2417 0 [3]) (at' (withEntries [entry2417]))
    (t.entry? 2417).bind (fun e => e.held.map (fun h => h.call.platform)) = some 3 ∧
      t.cues.map (fun c => (c.kind, c.platform)) = [(.platformChange, some 3)] := by decide

theorem test_service_touch_only : ((after (.serviceFrameTouchOnly 2417 0 [9, 0]) (at' tabled)).entry? 2417).map
    (fun e => (e.state, e.touched)) = some (.expected, true) := by decide

/-- The drifted clock confirmed by two marks: held at 40000, a step at 40030 with one minute tick and one sweep tick. -/
theorem test_time_mark :
    let free (s : Nat) (k : Option Candidate) : State := at' { part with clock := { part.clock with second := s, state := .free, candidate := k } }
    (after (.timemark 0 0 (be16 20000 ++ be24 40420)) (free 40000 none)).clock.candidate = some ⟨20000, 40420, 0⟩ ∧
    (let c := (after (.timemark 0 0 (be16 20000 ++ be24 40451)) (free 40030 (some ⟨20000, 40420, 30⟩))).clock
     (c.state, c.second, c.dueMinute, c.dueSweep, c.dueDay) = (.synced, 40451, 1, 1, 0)) ∧
    (let c := (after (.timemark 0 0 (be16 20000 ++ be24 40700)) (free 40030 (some ⟨20000, 40420, 30⟩))).clock
     (c.state, c.candidate) = (.free, some ⟨20000, 40700, 0⟩)) := by decide

/-- A mark that meets the expected time agrees up to the closing of the window, when the age passes 120, and not later (R27); the
window is closed by then whether or not the row of its closing has come. -/
theorem test_time_mark_after_the_window :
    let marked (age : Nat) :=
      (after (.timemark 0 0 (be16 20000 ++ be24 (40420 + age)))
        (at' { part with clock := { part.clock with state := .free, candidate := some ⟨20000, 40420, age⟩ } })).clock.state
    (marked 120, marked 122) = (.synced, .free) ∧
      (after .secondAdvance (at' { part with clock := { part.clock with candidate := some ⟨20000, 40420, 121⟩ } })).clock.candidate =
        none := by decide

set_option maxRecDepth 4000 in
/-- The worked report that returns the line: the selection of the return queues 2417 first, whose frame the cutoff withdraws, or
comes after the report and finds it no longer eligible (R100). -/
theorem test_report_returns_the_line :
    let down (k : Nat) : Device :=
      { withEntries [{ entry2417 with stop := .pending, waiting := 1 },
          { entry2417 with train := 2418, stop := .pending, waiting := 1, forecast := some ⟨210, 31500, 31530⟩ }] with
        line := { part.line with state := .down, failures := 3 }, sched := k }
    let slots (k : Nat) :=
      let t := after (.runFrame 2417 1146 ([1] ++ be24 30900 ++ [32])) (at' (down k))
      (t.line.slot0.map TxFrame.train, t.line.slot1.map TxFrame.train, (t.entry? 2417).map Entry.stop)
    slots 0 = (none, some 2418, some .unconfirmed) ∧ slots 1 = (some 2418, none, some .unconfirmed) := by decide

/-- A late STOPACK confirms an UNCONFIRMED request (chapter 6). -/
theorem test_stopack : ((after (.stopack 2417 1190 []) (at' (withEntries [{ entry2417 with stop := .unconfirmed }]))).entry? 2417).map
    (fun e => (e.stop, e.touched)) = some (.confirmed, true) := by decide

theorem test_line_notice : (after (.linenotice 0 0 [41, 1]) (at' noticed)).notices.items = [{ notice41 with shown := true }] := by
  decide

/-- A frame of a kind no block receives returns a line that is down, and does no more. -/
theorem test_line_frame_discarded :
    let t := after (.lineFrameDiscarded 0 0 0 []) (at' { part with line := { part.line with state := .down, failures := 3 } })
    (t.line.state, t.line.failures, t.hasFlag .lineChanged) = (.up, 3, true) := by decide

/-! ## Attempts -/

def slotted : Device :=
  { part with line := { part.line with slot0 := some { frame2417 with begun := true, failed := 15 }, attempt := some .s0 } }

theorem test_attempt_start : (after .attemptStart (at' { part with line := { part.line with slot1 := some frame2417 } })).line.attempt =
    some .s1 := by decide

theorem test_attempt_acknowledged :
    let t := after .attemptAcknowledged (at' { withEntries [{ entry2417 with stop := .pending, waiting := 3 }] with line := slotted.line })
    (t.line.slot0, t.line.failures, (t.entry? 2417).map Entry.stop) = (none, 0, some .sent) := by decide

/-- The sixteenth failure empties the slot; as the third frame in a row to fail it takes the line down. -/
theorem test_attempt_not_acknowledged :
    let t := after .attemptNotAcknowledged (at' { slotted with line := { slotted.line with failures := 2 } })
    (t.line.slot0, t.line.failures, t.line.state, t.notices.sn2) = (none, 3, .down, true) := by decide

/-! ## The clock and the buttons -/

/-- The second after 86399 is 0 of the next date and raises all three ticks. -/
theorem test_second_advance :
    let c := (after .secondAdvance (at' { part with clock := { part.clock with second := 86399 } })).clock
    (c.date, c.second, c.dueMinute, c.dueSweep, c.dueDay, c.syncAge) = (20001, 0, 1, 1, 1, 1) := by decide

/-- Train 2410 of the worked overdue case at the tick of 30300: A 30360, Dep 30390, OVERDUE. -/
theorem test_minute_tick :
    let call : CallRec := { call2417 with train := 2410, direction := .up, kind := .stop, schedArr := 30300, schedDep := 30360
                                          route := [⟨1210, 28800, 120⟩, ⟨1206, 29700, 60⟩], cutoff := none, approach := none }
    let e : Entry := { Entry.fresh 2410 20000 (some ⟨call, ascii "Tarn"⟩) with
      state := .running, lastIndex := some 2, lastEvent := some .passed, lastTime := some 29700, delay := some 0
      forecast := some ⟨0, 30300, 30360⟩ }
    ((after .minuteTick (at' { withEntries [e] with clock := { part.clock with second := 30300, dueMinute := 1 } })).entry? 2410).map
      (fun e => (e.forecast, e.overdue, e.firstOverdue)) = some (some ⟨0, 30360, 30390⟩, true, some 30300) := by decide

/-- The sweep removes a DEPARTED entry and remembers its train as finished. -/
theorem test_sweep_tick :
    let t := after .sweepTick (at' { withEntries [{ entry2417 with state := .departed }] with
      clock := { part.clock with second := 31800, dueSweep := 1 } })
    (t.table.entries, t.board.finished) = ([], [2417]) := by decide

theorem test_day_boundary :
    (after .dayBoundary (at' { part with clock := { part.clock with dueDay := 1 }
                                         board := { part.board with finished := [2417] } })).board.finished = [] := by decide

theorem test_sync_age_expiry :
    (after .syncAgeExpiry (at' { part with clock := { part.clock with syncAge := 21600 } })).clock.state = .free := by decide

/-- The window of a candidate closes when its age passes 120. -/
theorem test_candidate_window_close :
    let age (n : Nat) := (after .candidateWindowClose (at' { part with clock := { part.clock with candidate := some ⟨20000, 43060, n⟩ } })).clock.candidate
    (age 120, age 121) = (some ⟨20000, 43060, 120⟩, none) := by decide

/-- A delay of 0 that a day boundary starts expires before the rebuild or waits for DELAY_EXPIRY, as the free value has it. -/
theorem test_day_boundary_orders :
    let t (k : Nat) := (after .dayBoundary (at' { part with
      clock := { part.clock with dueDay := 1 }, sched := k
      co := { part.co with unit := .armed, armed := true, onDayBoundary := true, skipCount := 1 } })).co
    ((t 0).unit, (t 0).skipCount) = (.timing, 1) ∧ ((t 1).unit, (t 1).skipCount) = (.armed, 0) := by decide

/-- A delay that has run out with a skip left spends the skip. -/
theorem test_delay_expiry :
    let t := after .delayExpiry (at' { part with co := { part.co with
      unit := .timing, armed := true, onDayBoundary := true, delay := 900, skipCount := 1, timer := some ⟨.dayBoundary, 900⟩ } })
    (t.co.unit, t.co.skipCount, t.co.lastResult.map LastResult.outcome) = (.armed, 0, some .skipped) := by decide

/-- Quote 43 of the worked sequence is still open at 30260, its expiry, and closed at the next minute tick. -/
theorem test_quote_expiry :
    let held (n : Nat) : Option Nat :=
      let d := sellingAt n
      ((after .quoteExpiry (at' { d with clock := { d.clock with dueMinute := 1 }
                                         sale := { d.sale with slotA := some { quote42 with expiry := 30260 } } })).sale.slotA).map Quote.number
    (held 30260, held 30261) = (some 42, none) := by decide

/-- A notice is removed once its show-until has passed. -/
theorem test_notice_expiry :
    let left (n : Nat) := (after .noticeExpiry (at' { part with
      clock := { part.clock with second := n, dueMinute := 1 }
      notices := { part.notices with items := [{ notice41 with showUntil := some ⟨20000, 30240⟩ }] } })).notices.items.length
    (left 30240, left 30241) = (1, 0) := by decide

/-- The worked press: 2417 is chosen and its count rises by 1. -/
theorem test_button_press :
    let t := after (.buttonPress .down) (at' (withEntries [entry2417]))
    (t.sru.down.chosen, t.sru.down.lamp, (t.entry? 2417).map (fun e => (e.stop, e.waiting))) =
      (some 2417, .flashing, some (.pending, 1)) := by decide

theorem test_button_release :
    (after (.buttonRelease .up) (at' { part with sru := { part.sru with up := { part.sru.up with state := .pressed } } })).sru.up.state =
      .released := by decide

theorem test_lamp_flash :
    (after (.lampFlash .up) (at' { part with sru := { part.sru with up := { part.sru.up with lamp := .flashing, lit := true } } })).sru.up.lit =
      false := by decide

/-- The worked full queue: a lower priority is dropped, a higher one takes the place of the oldest of the lowest. -/
theorem test_offer_to_a_full_queue :
    let q := cueOf 2433 1 :: List.replicate 15 (cueOf 2417 2)
    offerTo q (cueOf 2441 1) = q ∧ offerTo q (cueOf 2421 3) = List.replicate 15 (cueOf 2417 2) ++ [cueOf 2421 3] := by decide

/-! ## Witnesses: a state and operands that meet the hypotheses of each statement -/

theorem part_takes : ∀ p, part.takes p := fun p => ⟨rfl, by cases p <;> rfl⟩

theorem call2417_valid : call2417.Valid where
  train := by decide
  platform := by decide
  days := by decide
  times := by decide
  passing := by decide
  dest := by decide
  length := by decide
  points := by decide
  rising := by decide
  margins := by decide
  cutoff := ⟨by decide, by rintro k ⟨⟩; decide⟩
  approach := by rintro k ⟨⟩; decide

theorem bank412_lawful : bank412.Lawful where
  calls := by decide
  names := by decide
  texts := by decide
  valid := by intro c h; rw [List.mem_singleton.1 h]; exact call2417_valid
  ordered := by decide
  single := by decide
  named := by decide
  empty := by decide
  id := fun _ => ⟨412, rfl, by decide⟩

theorem cleared_bank_lawful : TimetableBank.cleared.Lawful where
  calls := by decide
  names := by decide
  texts := by decide
  valid := nofun
  ordered := by decide
  single := by decide
  named := by decide
  empty := fun _ => rfl
  id := by decide

theorem dest214_valid : dest214.Valid := ⟨by decide, by decide, by decide, by decide⟩

theorem rules30_valid : rules30.Valid where
  types := by decide
  classes := by decide
  windows := by decide
  peak := by decide
  group := by decide
  caps := by unfold CapValid; decide

theorem bank30_lawful : bank30.Lawful where
  dests := by decide
  valid := by intro c h; rw [List.mem_singleton.1 h]; exact dest214_valid
  ascending := by decide
  rules := by rintro r ⟨⟩; exact rules30_valid
  ready := by decide
  empty := by decide
  id := fun _ => ⟨30, rfl, by decide⟩

theorem cleared_fares_lawful : FareBank.cleared.Lawful where
  dests := by decide
  valid := nofun
  ascending := by decide
  rules := nofun
  ready := by decide
  empty := fun _ => rfl
  id := by decide

/-! ### The starts and the ports -/

theorem witness_ColdStartGivesColdValues :
    ({ part with phase := .starting .restart } : Device).phase = .starting .restart ∧
      ({ part with phase := .starting .power } : Device).phase = .starting .power ∧ part.sched = 0 := ⟨rfl, rfl, rfl⟩

theorem witness_WarmStartKeepsStored :
    ({ loading with phase := .starting .resetInput } : Device).phase = .starting .resetInput := rfl

theorem witness_StartsEmptyThePorts :
    ({ part with phase := .off } : Device).phase = .off ∧ part.phase ≠ .off ∧
      ({ part with phase := .starting .power } : Device).phase ≠ .off ∧ part.takes .office :=
  ⟨rfl, by decide, by decide, part_takes _⟩

theorem witness_InputsDiscardedWhenNotTaken :
    (isInput .sweepTick = true ∧ ({ part with phase := .off } : Device).phase ≠ .running ∧
      ({ part with phase := .starting .power } : Device).phase ≠ .running) ∧
    (portCommand? (.restart .office []) = some ⟨.restart, .office, []⟩ ∧ State.reset.dev.phase ≠ .off ∧
      (State.reset.dev.port .office).mode ≠ .idle) ∧ (1 : Byte) ≠ 0 := by decide

set_option maxRecDepth 8000 in
/-- A LEN of 65 and a right of another port; then for periods given by bytes each way the framing fails, and the codes at the
ends of the gaps of R194. -/
theorem witness_FailedTestsAnswerAtOnce :
    part.takes .sale ∧
    (portCommand? (.quote .sale (List.replicate 63 0)) = some ⟨.quote, .sale, List.replicate 63 0⟩ ∧
      62 < (List.replicate 63 (0 : Byte)).length) ∧
    (portCommand? (.setGroup .sale (List.replicate 62 0)) = some ⟨.setGroup, .sale, List.replicate 62 0⟩ ∧
      (List.replicate 62 (0 : Byte)).length ≤ 62 ∧ ¬ mayBeSent Cmd.setGroup.code.toNat .sale) ∧
    (portCommand? (.void .sale [0, 1]) = some ⟨.void, .sale, [0, 1]⟩ ∧ mayBeSent Cmd.void.code.toNat .sale ∧
      Cmd.void ≠ Cmd.putNotice ∧ Cmd.void.lengthOk [0, 1] = false) ∧
    ((3 : Byte).toNat ≠ [(9 : Byte), 0].length ∧ (1 : Byte).toNat < 2 ∧ 64 < (65 : Byte).toNat ∧
      [(9 : Byte), 0].getLast? ≠ some (crc8 [2, 9])) ∧
    (∀ c ∈ [(0 : Byte), 5, 7, 11, 15, 42, 255], (2 : Byte).toNat = [c, crc8 [2, c]].length ∧
      [c, crc8 [2, c]].getLast? = some (crc8 ((2 : Byte) :: [c, crc8 [2, c]]).dropLast) ∧
      (c.toNat = 0 ∨ 5 ≤ c.toNat ∧ c.toNat ≤ 7 ∨ c.toNat = 11 ∨ c.toNat = 15 ∨ 42 ≤ c.toNat)) := by
  refine ⟨part_takes _, ?_⟩
  unfold mayBeSent
  decide

theorem witness_FrameBytesRunTheRow :
    portCommand? (.putNotice .office (List.replicate 62 0)) = some ⟨.putNotice, .office, List.replicate 62 0⟩ ∧
      (List.replicate 62 (0 : Byte)).length ≤ 62 := by decide

set_option maxRecDepth 8000 in
/-- A response of two segments, read one byte short and whole. -/
theorem witness_ReadPeriodsAndResponses :
    let r : Response := { cmd := 8, status := .ok, data := List.replicate 251 0, segmented := true }
    let x : Port := { idlePort 7 with mode := .responseReady, buffer := some r }
    part.phase ≠ .off ∧ (part.port .sale).mode = .idle ∧ ({ idlePort 7 with mode := .starting } : Port).mode = .starting ∧
      (x.buffer = some r ∧ 1 ≤ 254 ∧ 254 < (r.frame 0).length ∧ (r.frame 0).length ≤ 255 ∧ 0 + 1 < r.segments ∧
        (r.frame 1).length ≤ 6 ∧ r.segments ≤ 1 + 1) ∧
      ({ idlePort 7 with mode := .executing, inHand := some r } : Port).inHand = some r ∧ (part.port .sale).mode ≠ .executing := by
  decide

theorem witness_SegmentsCarryAllData :
    ({ cmd := 8, status := .ok, data := List.replicate 250 0, segmented := true } : Response).segmented = true := rfl

theorem witness_NotifySetsReadAndMasked : part.takes .office ∧ part.takes .board ∧ part.takes .sale :=
  ⟨part_takes _, part_takes _, part_takes _⟩

/-! ### The banks and the change-over -/

theorem witness_StageBeginStartsALoad :
    part.takes .office ∧ [(0 : Byte), 0].length = 2 ∧ u16At [0, 0] 0 = 0 ∧ u16At [0, 1] 0 ≠ 0 ∧ part.co.unit ≠ .timing ∧
      ({ part.co with unit := .timing } : Changeover).unit = .timing := ⟨part_takes _, by decide⟩

/-- A LOADING bank with 31 names and with 32; names of 0, 1, 24 and 25 characters; the characters 31, 32, 126 and 127. -/
theorem witness_StagePutDestStoresTheName :
    loading.takes .office ∧ part.tt.staged.state ≠ .loading ∧ loading.tt.staged.state = .loading ∧
      (List.replicate 24 (32 : Byte)).length ≤ 24 ∧ (∀ c ∈ List.replicate 24 (126 : Byte), 32 ≤ c.toNat ∧ c.toNat ≤ 126) ∧
      24 < (List.replicate 25 (32 : Byte)).length ∧ (∃ c ∈ [(31 : Byte)], c.toNat < 32 ∨ 126 < c.toNat) ∧
      (∃ c ∈ [(127 : Byte)], c.toNat < 32 ∨ 126 < c.toNat) ∧ 32 ≤ (List.replicate 32 (ascii "Tarn")).length ∧
      (List.replicate 31 (ascii "Tarn")).length < 32 := ⟨part_takes .office, by decide⟩

def sunday2417 : CallRec := { call2417 with days := 64 }

set_option maxRecDepth 4000 in
theorem sunday2417_passes : AllPass (CallCheck part.halt.ownPoint sunday2417.params) 16 := by
  have h3 : byteAt sunday2417.params 13 = 3 := by decide
  intro k h1 h2
  match k with
  | 11 =>
    simp only [CallCheck, h3]
    refine ⟨by decide, fun i j hij hj => ?_⟩
    revert i
    revert j
    decide
  | 13 =>
    simp only [CallCheck, h3]
    refine ⟨fun j hj => ?_, fun j hj => ?_⟩
    · obtain rfl | rfl : j = 0 ∨ j = 1 := by omega
      all_goals decide
    · obtain rfl : j = 2 := by omega
      decide
  | 14 =>
    simp only [CallCheck, h3]
    refine ⟨by decide, fun j hj => ?_⟩
    obtain rfl | rfl : j = 0 ∨ j = 1 := by omega
    all_goals decide
  | 1 | 2 | 3 | 4 | 5 | 6 | 7 | 8 | 9 | 10 | 12 | 15 | 16 => simp only [CallCheck]; decide
  | 0 => omega
  | n + 17 => omega

/-- A call of Sundays beside 95 calls of the other days; a failing check; a bank of 96 calls; a duplicate behind another. -/
theorem witness_StagePutCallStoresOrRefuses :
    (loading.takes .office ∧ sunday2417.Valid ∧ (∀ r ∈ sunday2417.route, r.point ≠ part.halt.ownPoint) ∧
      (List.replicate 95 { call2417 with days := 63 }).length < 96 ∧
      ∀ x ∈ List.replicate 2 { call2417 with days := 63 }, x.train = sunday2417.train → x.days &&& sunday2417.days = 0) ∧
    (sunday2417.params.length ≤ 62 ∧ sunday2417.params.length = 16 + 7 * byteAt sunday2417.params 13 ∧
      part.tt.staged.state ≠ .loading ∧ loading.tt.staged.state = .loading ∧
      FirstToFail (CallCheck part.halt.ownPoint (List.replicate 16 0)) 16 1 ∧
      AllPass (CallCheck part.halt.ownPoint sunday2417.params) 16 ∧
      96 ≤ (List.replicate 96 call2417).length ∧
      (call2417.train = u16At sunday2417.params 0 ∧ call2417.days &&& BitVec.ofNat 7 (byteAt sunday2417.params 5) ≠ 0) ∧
      ∀ y ∈ [{ call2417 with days := 63 }], y.train = call2417.train →
        y.days &&& BitVec.ofNat 7 (byteAt sunday2417.params 5) = 0) := by
  refine ⟨⟨part_takes .office, ?_, by decide⟩, by decide, by decide, by decide, by decide, ?_, sunday2417_passes, by decide⟩
  · exact { call2417_valid with days := by decide }
  · exact ⟨by decide, by decide, by simp only [CallCheck]; decide, fun j h k => absurd k (by omega)⟩

theorem witness_StageCloseJudgesTheBank :
    loading.takes .office ∧ part.tt.staged.state ≠ .loading ∧ part.fares.staged.state ≠ .loading ∧
      loading.tt.staged.state = .loading ∧ loading.fares.staged.state = .loading ∧ (96 : Byte).toNat ≤ 96 ∧
      96 < (97 : Byte).toNat ∧ (40 : Byte).toNat ≤ 40 ∧ 40 < (41 : Byte).toNat := ⟨part_takes .office, by decide⟩

/-- A record that passes, one of code 0 and of code 1000, a bank of 39 records and of 40. -/
theorem witness_StagePutFareStoresTheRecord :
    loading.takes .office ∧ dest214.Valid ∧ dest214.code < 65536 ∧ dest214.base < 65536 ∧ dest214.validity < 256 ∧
      dest214.name.length ≤ 56 ∧ part.fares.staged.state ≠ .loading ∧ loading.fares.staged.state = .loading ∧
      FirstToFail (FareCheck { dest214 with code := 0 }) 4 1 ∧ FirstToFail (FareCheck { dest214 with code := 1000 }) 4 1 ∧
      (∃ y ∈ [dest214], y.code = dest214.code) ∧ (∀ y ∈ List.replicate 40 { dest214 with code := 215 }, y.code ≠ dest214.code) ∧
      40 ≤ (List.replicate 40 dest214).length ∧ (List.replicate 39 dest214).length < 40 :=
  ⟨part_takes .office, dest214_valid, by decide, by decide, by decide, by decide, by decide, by decide,
    ⟨by decide, by decide, by simp only [FareCheck]; decide, fun j h k => absurd k (by omega)⟩,
    ⟨by decide, by decide, by simp only [FareCheck]; decide, fun j h k => absurd k (by omega)⟩, by decide⟩

theorem witness_StagePutRulesReplacesTheRules :
    loading.takes .office ∧ rules30.Valid ∧ loading.fares.staged.state = .loading ∧ part.fares.staged.state ≠ .loading ∧
      rules30.params.length ≤ 62 ∧ rules30.params.length = 23 + 7 * byteAt rules30.params 22 ∧
      FirstToFail (RulesCheck (List.replicate 23 0)) 8 1 :=
  ⟨part_takes .office, rules30_valid, by decide, by decide, by decide, by decide,
    by decide, by decide, by simp only [RulesCheck]; decide, fun j h k => absurd k (by omega)⟩

theorem witness_BanksStayLawful :
    let d := { sellingAt 30200 with tt := { tabled.tt with active := bank412 } }
    d.tt.Lawful ∧ d.fares.Lawful ∧ ∃ t, step { dev := d, pending := [.applyNow .office []] } = .next t :=
  ⟨⟨bank412_lawful, cleared_bank_lawful, .inl rfl⟩, ⟨bank30_lawful, cleared_fares_lawful, .inl rfl⟩, _, rfl⟩

/-- Settings at their largest values, each just past its range, and a last call still due and not due. -/
theorem witness_ChangeoverSetTakesTheSettings :
    let c : Changeover := { part.co with unit := .armed, armed := true, onLastCall := true }
    part.takes .office ∧ [(4 : Byte), 0, 0, 0, 1, 1].length = 6 ∧
      (3 < byteAt [4, 0, 0, 0, 1, 1] 0 ∧ 3600 < u16At [0, 14, 17] 1 ∧ 15 < byteAt [0, 0, 0, 16] 3 ∧ 3 < byteAt [0, 0, 0, 0, 4] 4) ∧
      (byteAt [3, 14, 16, 15, 3, 1] 0 ≤ 3 ∧ u16At [3, 14, 16, 15, 3, 1] 1 ≤ 3600 ∧ byteAt [3, 14, 16, 15, 3, 1] 3 ≤ 15 ∧
        byteAt [3, 14, 16, 15, 3, 1] 4 = ApplyMode.swap.code ∧ byteAt [3, 14, 16, 15, 3, 1] 5 = ApplyMode.none.code) ∧
      ({ part.co with unit := .timing } : Changeover).unit = .timing ∧ part.co.unit ≠ .timing ∧
      part.LastCallDue c ∧ ¬ tabled.LastCallDue c := by
  unfold Device.LastCallDue
  exact ⟨part_takes _, by decide⟩

theorem witness_ApplyNowAppliesAtOnce :
    part.takes .office ∧ part.co.unit = .disarmed ∧ ({ part.co with unit := .timing } : Changeover).unit ≠ .disarmed :=
  ⟨part_takes _, by decide⟩

theorem witness_DelayExpirySkipsOrApplies :
    let c : Changeover := { part.co with unit := .timing, armed := true, delay := 900, onLastCall := true,
                                         timer := some ⟨.dayBoundary, 900⟩ }
    part.phase = .running ∧ c.unit = .timing ∧ c.timer = some ⟨.dayBoundary, 900⟩ ∧
      (DelayTimer.mk .dayBoundary 899).elapsed < c.delay ∧ c.delay ≤ (DelayTimer.mk .dayBoundary 900).elapsed ∧
      c.skipCount = 0 ∧ 0 < ({ c with skipCount := 1 } : Changeover).skipCount ∧
      ¬ tabled.LastCallDue { c with unit := .armed } ∧ part.LastCallDue { c with unit := .armed } := by
  unfold Device.LastCallDue
  decide

theorem witness_DayBoundaryRebuildsAndTriggers :
    part.phase = .running ∧ ({ part.clock with dueDay := 1 } : Clock).dueDay = 0 + 1 ∧ part.clock.dueDay = 0 ∧
      (({ part.co with unit := .armed, onDayBoundary := true } : Changeover).unit = .armed ∧ part.co.delay = 0) := by decide

/-! ### A full table -/

/-- An entry that may be replaced, of a train above 23 others that may not. -/
def gone2391 : Entry := { entry2417 with train := 2391, state := .passed }

/-- The table full, with train 2391 replaceable and no entry of train 2417. -/
def fullTable : Device := withEntries ((List.range 23).map (fun k => { entry2417 with train := k + 1 }) ++ [gone2391])

theorem fullTable_makesWay : fullTable.MakesWay 2417 gone2391 := by
  refine ⟨⟨by decide, by decide⟩, by decide, by decide, by decide, by decide, fun x hx hne hr => ?_⟩
  have h : ∀ x ∈ fullTable.table.entries, x.Replaceable → x = gone2391 := by decide
  exact absurd (h x hx hr) hne

theorem fullTable_meets : fullTable.Meets 2417 (Entry.fresh 2417 20000 (some ⟨call2417, ascii "Tarn"⟩)) :=
  .inr ⟨fullTable_makesWay.2.1, .inr ⟨_, fullTable_makesWay⟩, .inl ⟨⟨call2417, ascii "Tarn"⟩, by decide, rfl⟩⟩

theorem withEntries_lawful : (withEntries [entry2417]).table.Lawful := ⟨by decide, by decide⟩

/-- The worked part with train 2417 in the list of group 1. -/
def listed : Device :=
  { withEntries [entry2417] with board := { part.board with groups := [0, 2, 0, 0], lists := [[], [⟨2417, 31230⟩], [], []] } }

theorem listed_sound : listed.BoardSound :=
  ⟨withEntries_lawful, ⟨bank412_lawful, cleared_bank_lawful, .inl rfl⟩,
    ⟨rfl, rfl, fun g => by
      match g with
      | 0 | 1 | 2 | 3 => decide
      | n + 4 =>
        have : listed.board.list (n + 4) = [] := rfl
        rw [this]; exact Nat.zero_le _⟩,
    by unfold Board.NoTrainTwice; decide⟩

/-- The worked part with sales open before a full table that holds one entry to replace and no call that a press may choose. -/
def fullOfOthers : Device :=
  { listed with table := { listed.table with
      entries := (List.range 23).map (fun k => { entry2417 with train := k + 1, held := none, forecast := none }) ++ [gone2391] } }

theorem fullOfOthers_makesWay : fullOfOthers.MakesWay 2417 gone2391 := by
  refine ⟨⟨by decide, by decide⟩, by decide, by decide, by decide, by decide, fun x hx hne hr => ?_⟩
  have h : ∀ x ∈ fullOfOthers.table.entries, x.Replaceable → x = gone2391 := by decide
  exact absurd (h x hx hr) hne

theorem fullOfOthers_sound : fullOfOthers.BoardSound :=
  ⟨fullOfOthers_makesWay.1, listed_sound.2.1, listed_sound.2.2.1, listed_sound.2.2.2⟩

theorem slotted_lawful : slotted.line.Lawful :=
  ⟨by rintro f ⟨⟩; decide, by rintro f ⟨⟩, by rintro a b ⟨⟩ ⟨⟩, by rintro k ⟨⟩; exact ⟨_, rfl, rfl⟩, by decide⟩

/-! ### Sales and the journal -/

def departed2417 : Entry := { entry2417 with state := .departed }

/-- Each row of the lookup's table: an entry without a call, of each kind of state, a finished train, a call of today at and past
two hours after S_d, and no call. -/
theorem witness_DepartureLookupFollowsTheTable :
    (withEntries [{ entry2417 with held := none }]).entry? 2417 = some { entry2417 with held := none } ∧
      (withEntries [departed2417]).entry? 2417 = some departed2417 ∧ departed2417.held = some ⟨call2417, ascii "Tarn"⟩ ∧
      departed2417.state = .departed ∧ ({ entry2417 with state := .cancelled } : Entry).state = .cancelled ∧
      entry2417.state = .running ∧
      tabled.entry? 2417 = none ∧ 2417 ∈ ({ tabled.board with finished := [2417] } : Board).finished ∧
      2417 ∉ tabled.board.finished ∧ tabled.tt.lookup 20000 2417 = some ⟨call2417, ascii "Tarn"⟩ ∧
      ({ tabled.clock with second := 38430 } : Clock).second ≤ call2417.schedDep + 7200 ∧
      call2417.schedDep + 7200 < ({ tabled.clock with second := 38431 } : Clock).second ∧
      tabled.tt.lookup 20000 2418 = none := by decide

/-- A parameter out of its range, and a QUOTE met by SALES_CLOSED and one by NOT_SOLD for its amount. -/
theorem witness_QuoteRefusalsInOrder :
    part.takes .sale ∧ [(0 : Byte), 214, 1, 1, 2, 9, 113].length = 7 ∧ 999 < u16At [3, 232, 1, 1, 2, 0, 0] 0 ∧
      9 < byteAt [0, 214, 1, 1, 10, 0, 0] 4 ∧ 9999 < u16At [0, 214, 1, 1, 2, 39, 16] 5 ∧
      (1 ≤ u16At [3, 231, 3, 3, 9, 39, 15] 0 ∧ u16At [3, 231, 3, 3, 9, 39, 15] 0 ≤ 999 ∧
        byteAt [3, 231, 3, 3, 9, 39, 15] 2 = TicketType.day.code ∧ byteAt [3, 231, 3, 3, 9, 39, 15] 3 = TicketClass.concession.code ∧
        byteAt [3, 231, 3, 3, 9, 39, 15] 4 ≤ 9 ∧ u16At [3, 231, 3, 3, 9, 39, 15] 5 ≤ 9999) ∧
      part.closeExpired.sale.state = .closed ∧
      firstOf [((1 : Byte), part.closeExpired.sale.state == .closed), (2, true)] = some 1 := ⟨part_takes _, by decide⟩

theorem selling_takes (n : Nat) : (sellingAt n).takes .sale := ⟨rfl, rfl⟩

/-- Quote 41 of the worked sequence, of the largest count, by a train and open; the slots empty, one held, both held. -/
theorem witness_QuoteOpensAPricedQuote :
    let s := at' (sellingAt 30100)
    let d := s.dev.closeExpired
    let ps : List Byte := [0, 214, 1, 1, 9, 9, 113]
    s.dev.takes .sale ∧ ps.length = 7 ∧ 1 ≤ u16At ps 0 ∧ u16At ps 0 ≤ 999 ∧ byteAt ps 2 = TicketType.single.code ∧
      byteAt ps 3 = TicketClass.adult.code ∧ 1 ≤ byteAt ps 4 ∧ byteAt ps 4 ≤ 9 ∧ u16At ps 5 ≤ 9999 ∧ d.sale.state = .isOpen ∧
      d.fares.active.dests.find? (fun y => y.code == u16At ps 0) = some dest214 ∧ d.fares.active.rules = some rules30 ∧
      dest214.base ≠ 0 ∧ rules30.classFactor .adult ≠ 0 ∧
      d.reference (if u16At ps 5 = 0 then none else some (u16At ps 5)) = some (.found (some entry2417) call2417) ∧
      (∃ e c, some (Departure.found (some entry2417) call2417) = some (.found e c) ∧ c.kind ≠ .pass ∧
        (true = true ↔ c.kind = .request) ∧
        (c.kind = .request → ∀ y, e = some y → belowCutoff y.lastIndex c = true ∨ y.stop = .confirmed)) ∧
      d.fareOf rules30 dest214 .single .adult (some (.found (some entry2417) call2417)) * 9 ≤ 999990 ∧
      groupDiscountOf rules30.groupThreshold rules30.groupDiscount (1240 * 9) 9 = 1110 ∧
      rules30.bandAt (d.clock.date.toNat % 7) (d.bandSecond (some (.found (some entry2417) call2417))) = .offPeak ∧
      d.sale.slotA = none ∧ d.reference none = none := by
  refine ⟨selling_takes _, by decide, by decide, by decide, by decide, by decide, by decide, by decide, by decide, by decide,
    by decide, by decide, by decide, by decide, by decide, ?_, by decide, by decide, by decide, by decide, by decide⟩
  exact ⟨some entry2417, call2417, rfl, by decide, by decide, fun _ y h => .inl (by cases h; decide)⟩

/-- The worked part with quote 42 in slot B and, in slot A, what is given. -/
def quotedAt (n : Nat) (a : Option Quote) : Device :=
  let d := sellingAt n
  { d with sale := { d.sale with slotA := a, slotB := some { quote42 with later := true } } }

theorem witness_QuoteOpensAPricedQuote_bothSlots :
    let d := (quotedAt 30140 (some { quote42 with number := 41 })).closeExpired
    d.sale.slotA = some { quote42 with number := 41 } ∧ d.sale.slotB = some { quote42 with later := true } ∧
      d.sale.slotA ≠ none ∧ ({ d.sale with slotB := none } : SaleUnit).slotB = none ∧ (quote42.later = false) := by decide

theorem witness_CancelQuoteClosesTheQuote :
    (sellingAt 30200).takes .sale ∧ (0 : Byte) = 0 ∧ (42 : Byte) ≠ 0 ∧
      slotNumbered (42 : Byte).toNat (quotedAt 30250 none).closeExpired.sale.slotB ∧
      ¬ slotNumbered (42 : Byte).toNat (quotedAt 30250 none).closeExpired.sale.slotA ∧
      ¬ slotNumbered (42 : Byte).toNat (quotedAt 30251 none).closeExpired.sale.slotB ∧
      (slotNumbered (41 : Byte).toNat (quotedAt 30250 (some { quote42 with number := 41 })).closeExpired.sale.slotA ∧
        ¬ slotNumbered (41 : Byte).toNat (quotedAt 30250 (some { quote42 with number := 41 })).closeExpired.sale.slotB) := by
  refine ⟨selling_takes _, rfl, by decide, ⟨{ quote42 with later := true }, by decide, by decide⟩, ?_, ?_,
    ⟨{ quote42 with number := 41 }, by decide, by decide⟩, ?_⟩
  · rintro ⟨q, h, _⟩; exact absurd h (by rw [show (quotedAt 30250 none).closeExpired.sale.slotA = none by decide]; nofun)
  · rintro ⟨q, h, _⟩; exact absurd h (by rw [show (quotedAt 30251 none).closeExpired.sale.slotB = none by decide]; nofun)
  · rintro ⟨q, h, k⟩
    rw [show (quotedAt 30250 (some { quote42 with number := 41 })).closeExpired.sale.slotB = some { quote42 with later := true } by
      decide] at h
    cases h
    exact absurd k (by decide)

/-- A parameter out of its range, an unknown quote, quote 42 with a wrong amount, and a full table with no place for train 2453. -/
theorem witness_IssueRefusalsInOrder :
    let d := (quotedAt 30160 none).closeExpired
    (quotedAt 30160 none).takes .sale ∧ ([42] ++ be24 4400 ++ [1] : List Byte).length = 5 ∧
      999990 < u24At ([42] ++ be24 999991 ++ [1]) 1 ∧ 2 < byteAt ([42] ++ be24 0 ++ [3]) 4 ∧
      (1 ≤ byteAt ([42] ++ be24 999990 ++ [2]) 0 ∧ u24At ([42] ++ be24 999990 ++ [2]) 1 ≤ 999990 ∧
        byteAt ([42] ++ be24 999990 ++ [2]) 4 ≤ 2) ∧
      d.sale.slotB = some { quote42 with later := true } ∧ d.sale.slotA = none ∧
      quote42.number = byteAt ([42] ++ be24 4400 ++ [1]) 0 ∧
      firstOf [((10 : Byte), quote42.generation != d.fares.generation),
        (11, u24At ([42] ++ be24 4400 ++ [1]) 1 != quote42.price)] = some 11 ∧
      ({ sellingAt 30160 with table := { part.table with entries := [] } } : Device).reference (some 2417) =
        some (.found none call2417) ∧ call2417.kind = .request ∧ (List.replicate 24 entry2417).length = 24 ∧
      ∀ e ∈ List.replicate 24 entry2417, e.state ≠ .departed ∧ e.state ≠ .passed ∧ e.state ≠ .cancelled :=
  ⟨⟨rfl, rfl⟩, by decide⟩

/-- ISSUE 42 of the worked sequence, and an open ticket. -/
theorem witness_IssueSellsTheTicket :
    let s := at' (quotedAt 30170 none)
    let d := s.dev.closeExpired
    let ps : List Byte := [42] ++ be24 4460 ++ [1]
    let q := { quote42 with later := true }
    s.dev.takes .sale ∧ ps.length = 5 ∧ 1 ≤ byteAt ps 0 ∧ byteAt ps 4 = PayKind.cash.code ∧ u24At ps 1 = q.price ∧
      q.price ≤ 999990 ∧ q.number = byteAt ps 0 ∧ d.sale.slotB = some q ∧ ¬ slotNumbered (byteAt ps 0) d.sale.slotA ∧
      q.generation = d.fares.generation ∧ d.sale.state = .isOpen ∧ d.journal.records.length + 2 ≤ 8 * d.journal.partition ∧
      d.journal.nextSerial = some 90113 ∧ 90113 ≤ 16777214 ∧ q.train = some 2417 ∧
      d.departure 2417 = .found (some entry2417) call2417 ∧ call2417.kind ≠ .pass ∧
      (∀ y, some entry2417 = some y → belowCutoff y.lastIndex call2417 = true ∨ y.stop = .confirmed) ∧ d.line.state = .up ∧
      (some entry2417 = none → d.table.entries.length < 24 ∨ ∃ v, d.MakesWay 2417 v) ∧
      (fullTable.departure 2417 = .found none call2417 ∧ ∃ v, fullTable.MakesWay 2417 v) ∧ listed.BoardSound ∧
      ({ q with train := none } : Quote).train = none := by
  refine ⟨⟨rfl, rfl⟩, by decide, by decide, by decide, by decide, by decide, by decide, by decide, ?_, by decide, by decide,
    by decide, by decide, by decide, by decide, by decide, by decide, fun y h => .inl (by cases h; decide), by decide, nofun,
    ⟨by decide, _, fullTable_makesWay⟩, listed_sound, rfl⟩
  rintro ⟨q, h, _⟩
  exact absurd h (by rw [show (at' (quotedAt 30170 none)).dev.closeExpired.sale.slotA = none by decide]; nofun)

/-- Sixty seconds after the sale of 90113 and sixty-one; a sale of train 2417's request, taken back whole and in part, and of a
train that has no entry any more. -/
theorem witness_VoidTakesBackTheLastSale :
    let d := (at' (soldAt 30230)).dev.closeExpired
    (soldAt 30230).takes .sale ∧ (be24 90113).length = 3 ∧ u24At (be24 0) 0 = 0 ∧ u24At (be24 90113) 0 = sale90113.serial ∧
      sale90113.serial ≠ 0 ∧ d.sale.lastSale = some sale90113 ∧ sale90113.voided = false ∧
      dateDiff d.clock.date sale90113.date * 86400 + d.clock.second - sale90113.second ≤ 60 ∧
      (∃ r ∈ d.journal.records, r.serial = sale90113.serial ∧ ∃ f, r.body = .sale f) ∧
      d.journal.records.length + 1 ≤ 8 * d.journal.partition ∧ d.journal.nextSerial = some 90114 ∧ 90114 ≠ 16777216 ∧
      ¬ dateDiff d.clock.date sale90113.date * 86400 + (soldAt 30231).clock.second - sale90113.second ≤ 60 ∧
      ({ sale90113 with train := some 2417 } : LastSale).train = some 2417 ∧ d.entry? 2417 = some entry2417 ∧
      (∀ n, ({ sale90113 with train := some 2418 } : LastSale).train = some n → d.entry? n = none) ∧
      (({ entry2417 with stop := .pending, waiting := 2 } : Entry).waiting ≤ sale90113.count ∧
        ¬ ({ entry2417 with stop := .pending, waiting := 3 } : Entry).waiting ≤ sale90113.count) ∧
      slotted.line.Lawful ∧ d.table.Lawful := by
  refine ⟨⟨rfl, rfl⟩, by decide, by decide, by decide, by decide, by decide, by decide, by decide,
    ⟨record90113, by decide, by decide, _, rfl⟩, by decide, by decide, by decide, by decide, by decide, by decide, ?_, by decide,
    slotted_lawful, withEntries_lawful⟩
  rintro n ⟨⟩
  decide

theorem witness_OpenAndCloseSales : part.takes .office ∧ (Instr.openSales .office [] = .openSales .office [] ∧ Cmd.openSales = .openSales) :=
  ⟨part_takes _, rfl, rfl⟩

theorem part_ports_lawful : part.PortsLawful := by
  intro p
  cases p <;> exact ⟨⟨rfl, rfl⟩, by decide⟩

theorem witness_SalesChangeoverAndPortsStayLawful :
    (sellingAt 30200).SalesLawful ∧ part.co.Lawful ∧
      ({ part.co with unit := .timing, armed := true, timer := some ⟨.dayBoundary, 0⟩ } : Changeover).Lawful ∧ part.PortsLawful ∧
      ∃ t, step { dev := sellingAt 30200, pending := [.closeSales .office []] } = .next t := by
  unfold Device.SalesLawful
  exact ⟨by decide, ⟨by decide, by decide⟩, ⟨by decide, by decide⟩, part_ports_lawful, _, rfl⟩

/-- A journal of one record, chained to its anchor. -/
def journal90113 : Journal :=
  { (soldAt 30200).journal with records := [{ record90113 with
      chain := crc16 0 (recordBytes record90113.serial record90113.date record90113.second record90113.body) }] }

set_option maxRecDepth 8000 in
theorem journal90113_lawful : journal90113.Lawful where
  partition := by decide
  fits := by decide
  ascending := by decide
  issued := by intro r h; rw [List.mem_singleton.1 h]; exact ⟨90113, rfl, by decide⟩
  next := by rintro h ⟨⟩; exact ⟨90114, rfl, by decide⟩
  bound := by rintro n ⟨⟩; decide
  chained := ⟨rfl, trivial⟩

theorem witness_JournalStaysLawful :
    ({ soldAt 30200 with journal := journal90113 } : Device).journal.Lawful ∧
      ∃ t, step { dev := { soldAt 30200 with journal := journal90113 }, pending := [.void .sale (be24 90113)] } = .next t :=
  ⟨journal90113_lawful, _, rfl⟩

/-- Serials at both ends of their range and just past them, and block counts of 15, 16, 56 and 57. -/
theorem witness_SerialBaseAndPartition :
    part.takes .office ∧ (be24 1).length = 3 ∧ u24At (be24 0) 0 = 0 ∧ 16777214 < u24At (be24 16777215) 0 ∧
      (1 ≤ u24At (be24 1) 0 ∧ u24At (be24 16777214) 0 ≤ 16777214) ∧
      ((sellingAt 0).journal.highest = some 90112 ∧ u24At (be24 90112) 0 ≤ 90112 ∧ 90112 < u24At (be24 90113) 0) ∧
      (soldAt 0).journal.records ≠ [] ∧ part.journal.records = [] ∧ (15 : Byte).toNat < 16 ∧ 56 < (57 : Byte).toNat ∧
      (48 : Byte).toNat = part.journal.partition ∧ (16 : Byte).toNat ≠ part.journal.partition ∧
      (56 : Byte).toNat ≠ part.journal.partition ∧ 64 - (56 : Byte).toNat < (List.replicate 9 notice41).length ∧
      (List.replicate 8 notice41).length ≤ 64 - (56 : Byte).toNat := ⟨part_takes _, by decide⟩

/-- A split of the records at a serial, one above the tail, and one below the head. -/
theorem witness_ReadJournalAndRelease :
    let j := (soldAt 30200).journal
    (soldAt 30200).takes .office ∧ j.records = [] ++ [record90113] ∧ j.records = [record90113] ++ [] ∧
      (∀ r ∈ [record90113], r.serial < u24At (be24 90114) 0) ∧ (∀ r ∈ [record90113], u24At (be24 90113) 0 ≤ r.serial) ∧
      (1 ≤ u24At (be24 90114) 0 ∧ ∀ r, j.records.getLast? = some r → r.serial < u24At (be24 90114) 0) ∧
      (∀ r ∈ [record90113], r.serial ≤ u24At (be24 90113) 0) ∧ (∀ r ∈ [record90113], u24At (be24 0) 0 < r.serial) ∧
      (u24At (be24 0) 0 = 0 ∧ ∃ r, j.records.getLast? = some r ∧ u24At (be24 90113) 0 ≤ r.serial) :=
  ⟨⟨rfl, rfl⟩, by decide, by decide, by decide, by decide,
    ⟨by decide, by intro r h; rw [show (soldAt 30200).journal.records.getLast? = some record90113 by decide] at h; cases h; decide⟩,
    by decide, by decide, by decide, record90113, by decide, by decide⟩

/-! ### The line -/

def filter0 : Filter := { enabled := true, code := 167773350, mask := 503318527, action := .accept }

/-- Filter 0 of the worked set decides a STOPACK for 1190, on a line that is up or down, and no frame of another point. -/
theorem witness_FiltersDecide :
    let l : Line := { part.line with filters := [filter0, filter0], defaultAction := .reject }
    let f : LineFrame := { kind := 5, train := 2417, point := 1190, data := [] }
    let g : LineFrame := { kind := 5, train := 2417, point := 1191, data := [] }
    lineFrame? (.stopack 2417 1190 []) = some f ∧ part.phase = .running ∧
      f.ident.toNat = f.kind.toNat * 33554432 + f.train.toNat * 2048 + f.point.toNat ∧
      g.ident.toNat = g.kind.toNat * 33554432 + g.train.toNat * 2048 + g.point.toNat ∧
      l.Decides f.ident (some 0) .accept ∧ l.Decides g.ident none .reject ∧ f.Reaches 1190 ∧ ¬ g.Reaches 1190 ∧
      ({ l with state := .down } : Line).Decides f.ident (some 0) .accept ∧ l.state = .up ∧ part.notices.sn2 = false := by
  refine ⟨rfl, rfl, by decide, by decide, .inl ⟨0, filter0, rfl, rfl, ⟨rfl, by decide⟩, rfl, nofun⟩, .inr ⟨rfl, rfl, ?_⟩, ?_, ?_,
    .inl ⟨0, filter0, rfl, rfl, ⟨rfl, by decide⟩, rfl, nofun⟩, rfl, by decide⟩
  · unfold Filter.Matches; decide
  · unfold LineFrame.Reaches; decide
  · unfold LineFrame.Reaches; decide

/-- Filter numbers 7, 8 and 9 and codes of 2^29 - 1 and 2^29; a line that is down with a frame in a slot, and an eligible
entry with no rival. -/
theorem witness_FiltersSetAndLineRestarted :
    let e := { entry2417 with stop := .pending }
    part.takes .office ∧ ([7, 1] ++ be32 536870911 ++ be32 0 ++ [1] : List Byte).length = 11 ∧
      8 < byteAt [9] 0 ∧ 536870911 < u32At ([0, 1] ++ be32 536870912) 2 ∧
      u32At ([7, 1] ++ be32 536870911) 2 ≤ 536870911 ∧ byteAt [7] 0 < 8 ∧ byteAt [8] 0 = 8 ∧
      byteAt [1] 0 = FilterAction.accept.code ∧
      (0 < (if (some frame2417 : Option TxFrame) = none then 0 else 1) + (if part.line.slot1 = none then 0 else 1) ∧
        e.eligible = true ∧ ∀ x ∈ [e], x.eligible = true → x ≠ e → False) := by
  refine ⟨part_takes _, by decide, by decide, by decide, by decide, by decide, by decide, by decide, by decide, by decide, ?_⟩
  intro x h _ n
  exact n (List.mem_singleton.1 h)

/-- A free transmitter with one slot queued, with both queued and neither ended, and after the other ended. -/
theorem witness_AttemptsStartAndAreAcknowledged :
    let l : Line := { part.line with slot0 := some frame2417, slot1 := some { frame2417 with train := 2429, later := true } }
    part.phase = .running ∧ (part.line.slot0 = none ∧ part.line.slot1 = none) ∧ slotted.line.attempt ≠ none ∧
      (l.attempt = none ∧ l.slot .s0 = some frame2417 ∧ l.lastEnd = none ∧ frame2417.later = false ∧
        ∀ g, l.slot SlotId.s0.other = some g → g.later = true) ∧
      ({ l with lastEnd := some .s1 } : Line).lastEnd = some SlotId.s0.other ∧
      ({ l with slot1 := none } : Line).slot SlotId.s0.other = none ∧
      ((withEntries [entry2417]).table.Lawful ∧ slotted.line.attempt = some .s0 ∧
        slotted.line.slot .s0 = some { frame2417 with begun := true, failed := 15 }) ∧
      (({ entry2417 with train := 2418, stop := .pending } : Entry).stop = .pending ∧
        ({ entry2417 with train := 2418, stop := .pending } : Entry).state = .running ∧ 2418 ≠ frame2417.train) :=
  ⟨rfl, ⟨rfl, rfl⟩, by decide, ⟨rfl, rfl, rfl, rfl, by rintro g ⟨⟩; rfl⟩, rfl, rfl, ⟨withEntries_lawful, rfl, rfl⟩, rfl, rfl,
    by decide⟩

theorem witness_FailedAttemptsCount :
    part.phase = .running ∧ part.line.attempt = none ∧ slotted.line.attempt = some .s0 ∧
      slotted.line.slot .s0 = some { frame2417 with begun := true, failed := 15 } ∧ 15 ≤ 15 ∧
      ({ frame2417 with failed := 14 } : TxFrame).failed + 1 < 16 ∧ 2 ≤ ({ slotted.line with failures := 2 } : Line).failures := by
  decide

theorem witness_LineStaysLawful :
    slotted.line.Lawful ∧ ∃ t, step { dev := slotted, pending := [.attemptNotAcknowledged] } = .next t :=
  ⟨slotted_lawful, _, rfl⟩

/-! ### The running table and the request stops -/

theorem tabled_hears (d : Device) (h : d.phase = .running) (l : d.line = part.line) (f : LineFrame) : d.Hears f := by
  refine ⟨h, ?_, ?_⟩
  · rw [l]
    have : ∀ n k, firstHit f.ident k (List.replicate n Filter.cold) = none := by
      intro n
      induction n with
      | zero => intro k; rfl
      | succ n ih => intro k; rw [List.replicate_succ]; simp [firstHit, Filter.hits, Filter.cold]; exact ih _
    have h8 : part.line.filters = List.replicate 8 Filter.cold := rfl
    simp only [Line.accepts, h8, this]
    rfl
  · rw [l]; rfl

/-- The report of the worked life at 1146, a new one, on the entry of train 2417. -/
theorem report_at_1146 (d : Device) (hh : ∀ f, d.Hears f) (he : d.entry? 2417 = some entry2417)
    (ho : d.halt = part.halt) : d.NewReport 2417 1146 ([1] ++ be24 30900 ++ [32]) entry2417 .passed 30900 where
  heard := hh _
  number := by decide
  sized := by decide
  event := by decide
  entry := .inl he
  timed := .inl (by decide)
  running := by decide
  new := by
    refine .inr (.inr ⟨by rw [ho]; decide, ⟨call2417, ascii "Tarn"⟩, 1, ⟨1146, 30600, 120⟩, rfl, rfl, rfl, ?_, ?_⟩)
    · intro j x hj hx
      obtain rfl : j = 0 := by omega
      cases hx
      decide
    · rintro j ⟨⟩; decide

/-- The last report of the worked life at the halt, at 1146 as a new report that reaches the cutoff, and of an UNLISTED train on the
way; a train entered by its first report, in room and in place of train 2391; and an entry that moves to APPROACHING. -/
theorem witness_RunFrameRecordsANewReport :
    let s := at' (withEntries [entry2417])
    let u := { entry2417 with held := none }
    s.dev.NewReport 2417 1146 ([1] ++ be24 30900 ++ [32]) entry2417 .passed 30900 ∧
      s.dev.RunTime 2417 entry2417 (byteAt [2, 0, 1, 34, 33] 4) (u24At [2, 0, 1, 34, 33] 1) 86690 ∧
      ((1190 : BitVec 11).toNat = s.dev.halt.ownPoint ∧ entry2417.NewAt 7 .passed) ∧
      (u.held = none ∧ u.effectiveState = .running) ∧
      (tabled.entry? 2417 = none ∧ tabled.table.entries.length < 24 ∧
        tabled.tt.lookup tabled.clock.date 2417 = some ⟨call2417, ascii "Tarn"⟩ ∧ tabled.tt.Lawful ∧ tabled.halt.dwell ≤ 120) ∧
      fullTable.Meets 2417 (Entry.fresh 2417 20000 (some ⟨call2417, ascii "Tarn"⟩)) ∧
      (part.reportCues { entry2417 with stop := .pending } { entry2417 with lastIndex := some 2 }).map Cue.kind = [.mayNotStop] ∧
      (part.reportCues { entry2417 with stop := .confirmed } { entry2417 with lastIndex := some 3, state := .approaching }).map
        Cue.kind = [.approaching] ∧ s.dev.cues = [] := by
  refine ⟨report_at_1146 _ (fun f => tabled_hears _ rfl rfl f) (by decide) rfl, .inr (by decide), ⟨by decide, ?_⟩, by decide,
    ⟨by decide, by decide, by decide, listed_sound.2.1, by decide⟩, fullTable_meets, by decide, by decide, rfl⟩
  rintro j ⟨⟩; decide

/-- A date byte that fits neither date; a second past 86399; a duplicate; an unknown point; a train with no call and enter unlisted
off; a full table with nothing to replace and with one entry to replace, before a SERVICE frame and a RUN frame of today. -/
theorem witness_FramesThatOnlyTouch :
    let s := at' (withEntries [entry2417])
    let data : List Byte := [1] ++ be24 30150 ++ [32]
    s.dev.Hears { kind := 1, train := 2417, point := 1140, data := data } ∧ data.length = 5 ∧
      s.dev.entry? (2417 : BitVec 14).toNat = some entry2417 ∧
      (byteAt [1, 0, 0, 0, 34] 4 ≠ entry2417.date.toNat % 256 ∧ byteAt [1, 0, 0, 0, 34] 4 ≠ (entry2417.date + 1).toNat % 256) ∧
      byteAt data 4 = entry2417.date.toNat % 256 ∧ 86399 < u24At ([1] ++ be24 86400) 1 ∧
      (RunEvent.ofCode (byteAt data 0) = some .passed ∧ ∃ h, entry2417.held = some h ∧
        ((∀ r ∈ h.call.route, r.point ≠ (1203 : BitVec 11).toNat) ∧
          ∃ k r, h.call.route[k]? = some r ∧ r.point = (1140 : BitVec 11).toNat ∧ ¬ entry2417.NewAt (k + 1) .passed)) ∧
      (tabled.entry? (2418 : BitVec 14).toNat = none ∧ tabled.tt.lookup tabled.clock.date (2418 : BitVec 14).toNat = none ∧
        tabled.halt.enterUnlisted = false) ∧
      ((withEntries ((List.range 24).map (fun k => { entry2417 with train := k + 1 }))).table.Lawful ∧
        ((List.range 24).map (fun k => { entry2417 with train := k + 1 })).length = 24 ∧
        ∀ e ∈ (List.range 24).map (fun k => { entry2417 with train := k + 1 }), ¬ e.Replaceable) ∧
      (lineFrame? (.cancel 2418 0 []) = some ⟨2, 2418, 0, [1]⟩ ∧ (2 : BitVec 4) = 2 ∧
        tabled.tt.lookup tabled.clock.date (2417 : BitVec 14).toNat ≠ none ∧ byteAt data 4 = tabled.clock.date.toNat % 256) ∧
      ((∀ f, fullTable.Hears f) ∧ fullTable.table.Lawful ∧ fullTable.MakesWay (2417 : BitVec 14).toNat gone2391 ∧
        lineFrame? (.platform 2417 0 [3]) = some ⟨2, 2417, 0, [3, 3]⟩ ∧ byteAt [4, 0] 0 = 4 ∧
        (([3, 3] : List Byte).length < 2 → Config.shortServiceTaken = true) ∧
        (lineFrame? (.cancel 2417 0 []) = some ⟨2, 2417, 0, [1]⟩ ∧ ([1] : List Byte).length < 2) ∧
        (2418 : BitVec 14).toNat ≤ 9999 ∧ ({ fullTable.halt with enterUnlisted := true } : HaltSettings).enterUnlisted = true) := by
  refine ⟨tabled_hears _ rfl rfl _, by decide, by decide, by decide, by decide, by decide,
    ⟨by decide, ⟨call2417, ascii "Tarn"⟩, rfl, by decide, 0, ⟨1140, 29700, 240⟩, rfl, rfl, ?_⟩, by decide,
    ⟨⟨by decide, by decide⟩, by decide, by decide⟩, by decide,
    ⟨fun f => tabled_hears _ rfl rfl f, fullTable_makesWay.1, fullTable_makesWay, rfl, by decide, nofun, by decide⟩⟩
  intro h
  have := h 1 rfl
  revert this
  decide

/-- A SERVICE frame of each kind on the entry of train 2417, and on the one that train has yet to be given, with room in the table
and in place of train 2391. -/
theorem witness_ServiceActionsActOnTheEntry :
    (withEntries [entry2417]).ServiceTaken (.cancel 2417 0 [0]) 2417 0 [1, 0] entry2417 ∧
      tabled.ServiceTaken (.reinstate 2417 0 [0]) 2417 0 [2, 0] (Entry.fresh 2417 20000 (some ⟨call2417, ascii "Tarn"⟩)) ∧
      fullTable.ServiceTaken (.serviceFrameTouchOnly 2417 0 [4, 0]) 2417 0 [4, 0]
        (Entry.fresh 2417 20000 (some ⟨call2417, ascii "Tarn"⟩)) ∧
      (withEntries [entry2417]).ServiceTaken (.platform 2417 0 [3]) 2417 0 [3, 3] entry2417 ∧
      (entry2417.state = .running ∧ ({ entry2417 with state := .cancelled, beforeCancel := some .running } : Entry).beforeCancel =
        some .running) ∧
      (entry2417.held = some ⟨call2417, ascii "Tarn"⟩ ∧ 1 ≤ (1 : Byte).toNat ∧ (4 : Byte).toNat ≤ 4 ∧
        (4 : Byte).toNat ≠ call2417.platform ∧ 4 < (5 : Byte).toNat) :=
  ⟨⟨tabled_hears _ rfl rfl _, by decide, .inl (by decide), nofun, .inl ⟨0, [], rfl, rfl⟩⟩,
    ⟨tabled_hears _ rfl rfl _, by decide, .inr ⟨by decide, .inl (by decide), .inl ⟨⟨call2417, ascii "Tarn"⟩, by decide, rfl⟩⟩, nofun,
      .inr (.inl ⟨0, [], rfl, rfl⟩)⟩,
    ⟨tabled_hears _ rfl rfl _, by decide, fullTable_meets, nofun, .inr (.inr (.inr ⟨rfl, by decide⟩))⟩,
    ⟨tabled_hears _ rfl rfl _, by decide, .inl (by decide), nofun, .inr (.inr (.inl ⟨3, [], rfl, rfl⟩))⟩, by decide, by decide⟩

/-- A departed entry that the sweep removes and an EXPECTED one that it keeps, each in the list it belongs to. -/
theorem witness_SweepRemovesAndAges :
    let d : Device := { withEntries [departed2417, { entry2417 with train := 2418, state := .expected }] with
      clock := { part.clock with second := 38430, dueSweep := 1 } }
    d.phase = .running ∧ part.clock.dueSweep = 0 ∧ d.clock.dueSweep = 0 + 1 ∧ d.table.Lawful ∧
      (∀ e, e ∈ [departed2417] ↔ e ∈ d.table.entries ∧ e.RemovedAt (d.clockOn e)) ∧
      [{ entry2417 with train := 2418, state := .expected }].Sublist d.table.entries ∧
      (∀ e, e ∈ [{ entry2417 with train := 2418, state := .expected }] ↔ e ∈ d.table.entries ∧ ¬ e.RemovedAt (d.clockOn e)) := by
  have h1 : ∀ n, departed2417.RemovedAt n := fun _ => trivial
  have h2 : ¬ ({ entry2417 with train := 2418, state := .expected } : Entry).RemovedAt 38430 := by
    show ¬ ((31230 : Nat) : Int) + 7200 < 38430
    decide
  have h3 : ∀ e ∈ [departed2417, { entry2417 with train := 2418, state := .expected }],
      dateDiff (20000 : Date) e.date * 86400 + ((38430 : Nat) : Int) = 38430 := by decide
  refine ⟨rfl, rfl, rfl, ⟨by decide, by decide⟩, ?_, by decide, ?_⟩
  · intro e
    constructor
    · intro h; rw [List.mem_singleton.1 h]; exact ⟨by decide, h1 _⟩
    · rintro ⟨h, r⟩
      rcases List.mem_cons.1 h with rfl | h
      · exact List.mem_singleton.2 rfl
      · rw [List.mem_singleton.1 h] at r
        exact absurd r h2
  · intro e
    constructor
    · intro h; rw [List.mem_singleton.1 h]; exact ⟨by decide, h2⟩
    · rintro ⟨h, r⟩
      rcases List.mem_cons.1 h with rfl | h
      · exact absurd (h1 _) r
      · exact h

theorem witness_StopackConfirmsTheRequest :
    let s := at' (withEntries [{ entry2417 with stop := .sent }])
    (∀ f, s.dev.Hears f) ∧ (1190 : BitVec 11).toNat = s.dev.halt.ownPoint ∧ s.dev.entry? 2418 = none ∧
      s.dev.entry? 2417 = some { entry2417 with stop := .sent } ∧ entry2417.stop = .none ∧ departed2417.state = .departed ∧
      entry2417.state ≠ .departed ∧ entry2417.state ≠ .passed := ⟨fun f => tabled_hears _ rfl rfl f, by decide⟩

/-- Button DOWN before train 2417 with 1240 s to go, before no call at all, and the train's call in the day list 5400 s ahead, and
1030 s ahead on a full table with an entry that makes way. -/
theorem witness_ButtonsPressReleaseAndFlash :
    let d := withEntries [entry2417]
    d.phase = .running ∧ (d.button .down).state = .released ∧ (d.button .down).lamp ≠ .flashing ∧ d.table.Lawful ∧
      d.PressMayChoose .down 2417 1240 ∧ (∀ m x, d.PressMayChoose .down m x → 1240 < x ∨ (1240 = x ∧ 2417 ≤ m)) ∧
      (∀ n g, ¬ part.PressMayChoose .down n g) ∧
      ({ tabled with clock := { part.clock with second := 25830 } } : Device).PressMayChoose .down 2417 5400 ∧
      (fullOfOthers.PressMayChoose .down 2417 1030 ∧
        (∀ m x, fullOfOthers.PressMayChoose .down m x → 1030 < x ∨ (1030 = x ∧ 2417 ≤ m)) ∧
        (∃ v, fullOfOthers.MakesWay 2417 v) ∧ fullOfOthers.BoardSound ∧ listed.BoardSound) := by
  have hd : ∀ h ∈ (withEntries [entry2417]).tt.dayList (withEntries [entry2417]).clock.date, h.call.train = 2417 := by decide
  have he : (withEntries [entry2417]).entry? 2417 = some entry2417 := by decide
  refine ⟨rfl, rfl, by decide, withEntries_lawful,
    ⟨by decide, .inl ⟨entry2417, by decide, ⟨call2417, ascii "Tarn"⟩, rfl, rfl, rfl, rfl, by decide, by decide, by decide⟩⟩, ?_, ?_,
    ⟨by decide, .inr ⟨by decide, by decide, by decide, ⟨call2417, ascii "Tarn"⟩, by decide, rfl, rfl, rfl, by decide⟩⟩,
    ⟨by decide, .inr ⟨by decide, by decide, by decide, ⟨call2417, ascii "Tarn"⟩, by decide, rfl, rfl, rfl, by decide⟩⟩, ?_,
    ⟨_, fullOfOthers_makesWay⟩, fullOfOthers_sound, listed_sound⟩
  · rintro m x ⟨_, ⟨e, h, hh, hm, _, _, _, _, _, hx⟩ | ⟨_, hn, _, h, hm, rfl, _⟩⟩
    · rw [List.mem_singleton.1 h] at hm hx
      have h0 : (31440 : Int) - (withEntries [entry2417]).clockOn entry2417 = 1240 := by decide
      exact .inr ⟨h0.symm.trans hx.symm, hm ▸ by decide⟩
    · rw [hd h hm, he] at hn
      exact absurd hn (Option.some_ne_none _)
  · rintro n g ⟨_, ⟨e, h, _⟩ | ⟨_, _, _, h, hm, _⟩⟩
    · exact absurd h List.not_mem_nil
    · exact absurd hm (by rw [show part.tt.dayList part.clock.date = [] by decide]; exact List.not_mem_nil)
  · rintro m x ⟨_, ⟨e, h, hh, _, he, _, _, hs, _⟩ | ⟨_, _, _, h, hm, rfl, _, _, rfl⟩⟩
    · have : ∀ e ∈ fullOfOthers.table.entries, e.held = none ∨ e = gone2391 := by decide
      rcases this e h with hn | rfl
      · exact absurd he (by rw [hn]; nofun)
      · exact absurd hs (by decide)
    · have : ∀ h ∈ fullOfOthers.tt.dayList fullOfOthers.clock.date, h.call = call2417 := by decide
      rw [this h hm]
      exact .inr (by decide)

theorem entry2417_ranges : entry2417.RangesLawful where
  route := by rintro h ⟨⟩; decide
  index := by rintro k ⟨⟩; decide
  time := by rintro t ⟨⟩; decide
  arrival := by rintro t ⟨⟩
  delay := by rintro x ⟨⟩; decide
  forecast := by rintro f ⟨⟩; decide
  waiting := by decide
  idle := by decide

theorem witness_RunningTableStaysLawful :
    let d := withEntries [entry2417]
    d.tt.Lawful ∧ d.table.Lawful ∧ d.StopsLawful ∧ (∀ e ∈ d.table.entries, e.RangesLawful) ∧
      ∃ t, step { dev := d, pending := [.buttonPress .down] } = .next t := by
  refine ⟨⟨bank412_lawful, cleared_bank_lawful, .inl rfl⟩, withEntries_lawful, ?_, ?_, _, rfl⟩
  · intro e h
    rw [List.mem_singleton.1 h]
    rintro x ⟨⟩ hb
    exact absurd hb (by decide)
  · intro e h; rw [List.mem_singleton.1 h]; exact entry2417_ranges

theorem entry2417_forecast : entry2417.ForecastLawful .synced 120 where
  unset := nofun
  scheduled := by rintro h ⟨⟩; decide
  reported := by rintro h ⟨⟩ _; exact ⟨0, ⟨1140, 29700, 240⟩, 450, rfl, rfl, rfl, by decide⟩
  arrived := by rintro h ⟨⟩; decide
  bounds := by rintro h f ⟨⟩ ⟨⟩ _; decide

theorem witness_ForecastsStayLawful :
    let d := withEntries [entry2417]
    d.tt.Lawful ∧ d.table.Lawful ∧ d.ForecastsLawful ∧
      ∃ t, step { dev := d, pending := [.runFrame 2417 1146 ([1] ++ be24 30900 ++ [32])] } = .next t :=
  ⟨⟨bank412_lawful, cleared_bank_lawful, .inl rfl⟩, withEntries_lawful,
    fun _ h => List.mem_singleton.1 h ▸ entry2417_forecast, _, rfl⟩

/-! ### The board, the notices and the cues -/

theorem noticed_lawful : noticed.NoticesLawful := ⟨by decide, by decide, by decide, by decide⟩

theorem notice41_valid : notice41.Valid := ⟨by decide, by decide, by decide, nofun, nofun, nofun⟩

/-- The gathered parameters of notice 41 with a window given. -/
def windowParams (d1 : Date) (s1 : Nat) (d2 : Date) (s2 : Nat) : List Byte :=
  ({ notice41 with showFrom := some ⟨d1, s1⟩, showUntil := some ⟨d2, s2⟩ } : Notice).params

/-- A part that follows none, part 0 that goes on, part 1 after part 0, the last part; a text length that disagrees, a notice number
of 0, a window whose second is 86400 and one that ends as it starts; and a valid notice, new with the blocks it needs and without them, and replacing. -/
theorem witness_PutNoticeGathersAndStores :
    let x := part.port .office
    let y : Port := { x with assembly := some { gathered := notice41.params.take 10, last := 0 } }
    part.takes .office ∧ (notice41.params.length ≤ 61 ∧ (List.replicate 61 (0 : Byte)).length ≤ 61) ∧
      ((129 : Byte).toNat % 8 ≠ 0 ∧ ∀ a, x.assembly = some a → False) ∧ ((0x78 : Byte).toNat < 128 ∧ (0x78 : Byte).toNat % 8 = 0) ∧
      (y.assembly = some { gathered := notice41.params.take 10, last := 0 } ∧ (0x79 : Byte).toNat < 128 ∧
        (0x79 : Byte).toNat % 8 = 0 + 1 ∧ (0x79 : Byte).toNat % 8 ≤ 3) ∧
      (x.EndsWith 128 notice41.params notice41.params ∧ y.EndsWith 129 (notice41.params.drop 10) notice41.params) ∧
      (List.replicate 17 (1 : Byte)).length ≠ 17 + byteAt (List.replicate 17 (1 : Byte)) 16 ∧
      (List.replicate 17 (0 : Byte)).length = 17 + byteAt (List.replicate 17 (0 : Byte)) 16 ∧
      byteAt (List.replicate 17 (0 : Byte)) 0 = 0 ∧
      (SentMoment (windowParams 20000 86400 20001 0) 6 ⟨20000, 86400⟩ ∧ 86399 < 86400) ∧
      (SentMoment (windowParams 20000 100 20000 100) 6 ⟨20000, 100⟩ ∧ SentMoment (windowParams 20000 100 20000 100) 11 ⟨20000, 100⟩ ∧
        ¬ Moment.After ⟨20000, 100⟩ ⟨20000, 100⟩) ∧ notice41.Valid ∧ part.NoticesLawful ∧ noticed.NoticesLawful ∧
      (∀ o ∈ part.notices.items, o.number ≠ notice41.number) ∧
      64 - 62 - part.notices.items.length < 3 ∧ 3 ≤ 64 - 61 - part.notices.items.length ∧
      ∃ o ∈ noticed.notices.items, o.number = notice41.number := by
  refine ⟨part_takes _, by decide, ⟨by decide, nofun⟩, by decide, by decide, ⟨⟨by decide, .inl ⟨by decide, rfl⟩⟩,
    ⟨by decide, .inr ⟨_, rfl, by decide, by decide, by decide⟩⟩⟩, by decide, by decide, by decide, ⟨by unfold SentMoment; decide, by decide⟩,
    ⟨by unfold SentMoment; decide, by unfold SentMoment; decide, by unfold Moment.After; decide⟩, notice41_valid, ⟨by decide, by decide, by decide, by decide⟩, noticed_lawful, by decide, by decide, by decide, by decide⟩

theorem witness_NoticesRemovedShownAndHidden :
    let f : LineFrame := { kind := 6, train := 0, point := 0, data := [41, 2] }
    noticed.NoticesLawful ∧ noticed.takes .office ∧ (∀ o ∈ noticed.notices.items, o.number ≠ (42 : Byte).toNat) ∧
      (∃ o ∈ noticed.notices.items, o.number = (41 : Byte).toNat) ∧ noticed.Hears f ∧
      (2 < (3 : Byte).toNat ∧ (2 : Byte).toNat = (if false = true then 1 else 2)) ∧
      (notice41 ∈ noticed.notices.items ∧ notice41.number = (41 : Byte).toNat ∧ notice41.kind = .canned ∧
        notice41.shown = false ∧ notice41.shown ≠ true) :=
  ⟨noticed_lawful, part_takes .office, by decide, by decide, tabled_hears _ rfl rfl _, by decide, by decide⟩

/-- Screen 5 and group 3 with the fullest masks, and each number just past its range. -/
theorem witness_ScreensAndGroupsAreSet :
    part.takes .office ∧ part.takes .board ∧ 5 < (6 : Byte).toNat ∧ 1 < (2 : Byte).toNat ∧ 15 < (16 : Byte).toNat ∧
      3 < (4 : Byte).toNat ∧ 2 < (3 : Byte).toNat ∧ (5 : Byte).toNat ≤ 5 ∧ (1 : Byte).toNat ≤ 1 ∧ (15 : Byte).toNat ≤ 15 ∧
      (3 : Byte).toNat ≤ 3 ∧ part.board.screens[(5 : Byte).toNat]? = some Screen.cold ∧
      ((2 : Byte).toNat = 2 ∧ ({ Screen.cold with health := .fault } : Screen) ≠ Screen.cold) ∧
      ((1 : Byte).toNat = 1 ∧ ({ Screen.cold with health := .ok } : Screen) = Screen.cold) :=
  ⟨part_takes _, part_takes _, by decide⟩

theorem witness_DayAndDepartureListsAreInOrder :
    let d := withEntries [entry2417]
    (d.table.Lawful ∧ d.tt.Lawful ∧ d.board.groups.length = 4 ∧ 3 < 4) ∧ listed.BoardSound ∧
      listed.NewReport 2417 1146 ([1] ++ be24 30900 ++ [32]) entry2417 .passed 30900 ∧
      listed.ServiceTaken (.platform 2417 0 [3]) 2417 0 [3, 3] entry2417 ∧
      (fullOfOthers.BoardSound ∧ fullOfOthers.ServiceTaken (.serviceFrameTouchOnly 2417 0 [4, 0]) 2417 0 [4, 0]
        (Entry.fresh 2417 20000 (some ⟨call2417, ascii "Tarn"⟩))) ∧
      (let e : Device := { listed with clock := { listed.clock with dueSweep := 1 } }
       e.phase = .running ∧ e.clock.dueSweep = 0 + 1 ∧ e.BoardSound) :=
  ⟨⟨withEntries_lawful, ⟨bank412_lawful, cleared_bank_lawful, .inl rfl⟩, rfl, by decide⟩, listed_sound,
    report_at_1146 _ (fun f => tabled_hears _ rfl rfl f) (by decide) rfl,
    ⟨tabled_hears _ rfl rfl _, by decide, .inl (by decide), nofun, .inr (.inr (.inl ⟨3, [], rfl, rfl⟩))⟩,
    ⟨fullOfOthers_sound, tabled_hears _ rfl rfl _, by decide,
      .inr ⟨by decide, .inr ⟨_, fullOfOthers_makesWay⟩, .inl ⟨⟨call2417, ascii "Tarn"⟩, by decide, rfl⟩⟩, nofun,
      .inr (.inr (.inr ⟨rfl, by decide⟩))⟩, rfl, rfl, listed_sound⟩

/-- An enabled screen with a group that shows a platform, its notices, and the list of its group. -/
theorem witness_PagesShowWhatIsRouted :
    let s : Screen := { Screen.cold with enabled := true, groups := 2 }
    let page := { notice41 with shown := true, form := .page }
    noticed.NoticesLawful ∧ Screen.cold.enabled = false ∧ s.enabled = true ∧
      ({ notice41 with shown := true } : Notice).RoutedTo s ∧ page.form = .page ∧ page.RoutedTo s ∧
      (∀ n ∈ noticed.notices.items, n.form = .page → False) ∧
      s.groups.getLsbD 1 = true ∧ noticed.board.groupMask 1 = 0 ∧ (BitVec.ofNat 4 15 ≠ 0 ∧ noticed.board.list 1 = []) ∧
      (s.health = .ok ∧ (part.notices.sn1 = true ∨ part.notices.sn3 = true) ∧ s.groups ≠ 0) ∧
      (listed.table.Lawful ∧ listed.tt.Lawful ∧ listed.ShownGroup s 1 ∧ listed.board.list 1 ≠ []) := by
  unfold Notice.RoutedTo Device.ShownGroup
  exact ⟨noticed_lawful, by decide, by decide, by decide, by decide, by decide, by decide, by decide, by decide, by decide,
    by decide, withEntries_lawful, ⟨bank412_lawful, cleared_bank_lawful, .inl rfl⟩, by decide, by decide⟩

theorem witness_CuesAreOfferedAndTaken :
    (List.replicate 15 (cueOf 2417 1)).length < 16 ∧
      ([cueOf 2417 2].length + 1 + (List.replicate 14 (cueOf 2417 1)).length = 16 ∧ (cueOf 2433 1).priority ≤ 3 ∧
        (∀ y ∈ [cueOf 2417 2], (cueOf 2433 1).priority < y.priority) ∧
        ∀ y ∈ List.replicate 14 (cueOf 2417 1), (cueOf 2433 1).priority ≤ y.priority) ∧
      part.cues = [] ∧ part.takes .board ∧ ({ part with cues := [cueOf 2433 1] } : Device).cues = cueOf 2433 1 :: [] ∧
      (cueOf 2433 1).notice = none ∧ (notice41 ∈ noticed.notices.items ∧
        ({ cueOf 0 1 with notice := some 41 } : Cue).notice = some notice41.number ∧ noticed.NoticesLawful) :=
  ⟨by decide, by decide, rfl, part_takes _, rfl, rfl, by decide, rfl, noticed_lawful⟩

theorem board_lawful (b : Board) (h : b = part.board) : b.Lawful := by
  subst h
  exact ⟨rfl, rfl, fun g => by
    have : part.board.list g = [] := by
      show (List.replicate 4 ([] : List Member)).getD g [] = []
      match g with
      | 0 | 1 | 2 | 3 => rfl
      | n + 4 => rfl
    rw [this]; exact Nat.zero_le _⟩

theorem witness_BoardAndNoticesStayLawful :
    noticed.NoticesLawful ∧ noticed.board.Lawful ∧ noticed.BoundsLawful ∧ noticed.tt.Lawful ∧ noticed.table.Lawful ∧
      ({ noticed.board with lists := [[⟨2417, 31230⟩, ⟨2453, 33000⟩], [], [], []] } : Board).NoTrainTwice ∧
      ∃ t, step { dev := noticed, pending := [.showNotice .office [41]] } = .next t :=
  ⟨noticed_lawful, board_lawful _ rfl, ⟨by decide, by decide, by decide, by decide⟩,
    ⟨cleared_bank_lawful, cleared_bank_lawful, .inr rfl⟩, ⟨by decide, by decide⟩, by unfold Board.NoTrainTwice; decide, _, rfl⟩

/-! ### The clock, the settings and the readers -/

theorem witness_SecondAdvanceCounts :
    ({ part.clock with second := 86398 } : Clock).second < 86399 ∧ ({ part.clock with second := 86399 } : Clock).second = 86399 ∧
      part.phase = .running ∧ ({ part with phase := .off } : Device).phase ≠ .running := by decide

theorem witness_MinuteTickIsTaken :
    let d : Device := { quotedAt 30260 none with clock := { part.clock with second := 30260, dueMinute := 1 } }
    d.phase = .running ∧ part.clock.dueMinute = 0 ∧ d.clock.dueMinute = 0 + 1 ∧ d.table.Lawful ∧ ¬ d.LastCallDue d.co ∧
      d.co.unit ≠ .timing ∧ listed.board.NoTrainTwice ∧
      part.LastCallDue { part.co with unit := .armed, armed := true, onLastCall := true } := by
  refine ⟨rfl, rfl, rfl, withEntries_lawful, ?_, by decide, by unfold Board.NoTrainTwice; decide, ?_⟩ <;>
    unfold Device.LastCallDue <;> decide

/-- Marks 300 s and 301 s ahead, one of a lower date, one 2 s and one 3 s from the candidate's count; the sync age and the
candidate's window at their ends. -/
theorem witness_ClockStepsAndExpiries :
    let c := { part.clock with candidate := some ⟨20000, 40420, 30⟩, second := 40030 }
    (∀ f, part.Hears f) ∧ (be16 20000 ++ be24 30500).length = 5 ∧ part.takes .office ∧ part.table.Lawful ∧
      (86399 < u24At (be24 86400) 0 ∧ u24At (be24 86399) 0 ≤ 86399) ∧
      (part.clock.state ≠ .unset ∧ dateDiff 19999 part.clock.date < 0 ∧ 0 ≤ dateDiff 20000 part.clock.date) ∧
      (Device.cold .power).clock.state = .unset ∧ (part.clock.ahead 20000 30500 ≤ 300 ∧ -300 ≤ part.clock.ahead 20000 29900) ∧
      (300 < part.clock.ahead 20000 30501 ∧ part.clock.ahead 20000 29899 < -300) ∧
      ((20000 : Date) = 20000 ∧ dateDiff 20000 20000 * 86400 + (40452 : Int) - 40420 - 30 ≤ 2 ∧
        2 < dateDiff 20000 20000 * 86400 + (40453 : Int) - 40420 - 30) ∧ c.candidate = some ⟨20000, 40420, 30⟩ ∧
      part.clock.syncAge < 21600 ∧ part.clock.state = .synced ∧ 21600 ≤ ({ part.clock with syncAge := 21600 } : Clock).syncAge ∧
      (Candidate.mk 20000 0 120).age ≤ 120 ∧ 120 < (Candidate.mk 20000 0 121).age ∧
      (Candidate.mk 20000 40420 121).age ≤ 121 ∧ 121 < (Candidate.mk 20000 40420 122).age := by
  refine ⟨fun f => tabled_hears _ rfl rfl f, by decide, part_takes _, ⟨by decide, by decide⟩, by decide⟩

def halt1190 : HaltSettings :=
  { ownPoint := 2047, name := List.replicate 24 126, fareCode := 999, dwell := 120, early := 600, reserve := 64, uploadMark := 448
    enterUnlisted := true }

theorem witness_SetHaltTakesEverySetting :
    part.takes .office ∧ part.table.Lawful ∧ halt1190.Valid ∧
      (List.replicate 12 (0 : Byte)).length = 12 + byteAt (List.replicate 12 (0 : Byte)) 2 ∧
      FirstToFail (HaltCheck (List.replicate 12 0)) 8 1 ∧
      (halt1190.name ≠ part.halt.name ∧ halt1190.dwell ≠ part.halt.dwell ∧ halt1190.early ≠ part.halt.early) ∧
      (({ halt1190 with uploadMark := 8 } : HaltSettings).uploadMark < part.halt.uploadMark ∧
        8 ≤ (List.replicate 8 record90113).length) :=
  ⟨part_takes _, ⟨by decide, by decide⟩, ⟨by decide, by decide, by decide, by decide, by decide, by decide, by decide⟩, by decide,
    ⟨by decide, by decide, by simp only [HaltCheck]; decide, fun j h k => absurd k (by omega)⟩, by decide⟩

/-- Screens 5 and 6; a direction, a count and a train number in and out of range; a train with an entry, one with a call
alone, one with neither; and sections 0, 1, 6 and 7. -/
theorem witness_ReadersAnswerAndChangeNothing :
    let d := withEntries [entry2417]
    (∀ p, part.takes p) ∧ part.board.screens[(5 : Byte).toNat]? = some Screen.cold ∧
      part.board.screens.length ≤ (6 : Byte).toNat ∧
      (2 < byteAt [3, 8, 0, 0] 0 ∧ 8 < byteAt [1, 9, 0, 0] 1 ∧ 9999 < u16At [1, 8, 39, 16] 2) ∧
      (byteAt [2, 8, 39, 15] 0 = directionCode .down ∧ byteAt [2, 8, 39, 15] 1 ≤ 8 ∧ u16At [2, 8, 39, 15] 2 ≤ 9999 ∧
        u16At [2, 8, 9, 113] 2 = 2417) ∧
      d.entry? 2417 = some entry2417 ∧ tabled.entry? 2417 = none ∧
      tabled.tt.lookup tabled.clock.date 2417 = some ⟨call2417, ascii "Tarn"⟩ ∧
      tabled.tt.lookup tabled.clock.date 9999 = none ∧ 6 < (7 : Byte).toNat ∧ part.clock.state = .synced ∧
      part.clock.candidate = none ∧ (1 ≤ (1 : Byte).toNat ∧ (6 : Byte).toNat ≤ 6) := ⟨part_takes, by decide⟩

/-- Train 2417 EXPECTED, RUNNING at 1140 and AT_HALT, with the forecasts of chapter 5; and with OVERDUE set, at an N below the
arrival of R79, and from it on below and at the slid arrival. -/
theorem witness_ForecastArithmetic :
    let late := { entry2417 with overdue := true, firstOverdue := some 31410, forecast := some ⟨210, 31500, 31530⟩ }
    let at7 := { entry2417 with state := .atHalt, lastIndex := some 7, haltArrival := some 31290 }
    entry2417.held = some ⟨call2417, ascii "Tarn"⟩ ∧ entry2417.overdue = false ∧ call2417.schedDep ≤ 86399 ∧
      (({ entry2417 with state := .expected } : Entry).state = .expected ∧ entry2417.state = .running ∧
        entry2417.delay = some 450 ∧ entry2417.lastIndex = some (0 + 1) ∧ call2417.route[0]? = some ⟨1140, 29700, 240⟩ ∧
        (210 : Int) = if ((240 : Nat) : Int) < 450 then 450 - ((240 : Nat) : Int) else 0) ∧
      ((31410 : Nat) : Int) = min (max 0 ((call2417.schedArr : Int) + 210)) 108119 ∧
      entry2417.DepFrom call2417 30 30200 31410 31440 ∧ at7.DepFrom call2417 30 31290 31290 31320 ∧
      (late.overdue = true ∧ late.state ≠ .atHalt ∧ late.forecast = some ⟨210, 31500, 31530⟩ ∧ late.firstOverdue = some 31410 ∧
        ((31409 : Int) < (31410 : Nat)) ∧ (((31410 : Nat) : Int) ≤ 31499 ∧ (31499 : Int) < (31500 : Nat)) ∧
        ((31500 : Nat) : Int) ≤ 31500) ∧
      (at7.state = .atHalt ∧ at7.haltArrival = some 31290 ∧
        (90 : Int) = max (-((120 : Nat) : Int)) (min 21600 (((31290 : Nat) : Int) - call2417.schedArr)) ∧
        ((31320 : Nat) : Int) = min (max (max (call2417.schedDep : Int) ((31290 : Nat) + (30 : Nat))) 31290) 108119) ∧
      (entry2417.recompute 30 120 30200 false).1.forecast = some ⟨210, 31410, 31440⟩ := by
  unfold Entry.DepFrom
  decide

end Sys2Proof.Tests
end

/-! # Commands of the Office port, answered -/

namespace Sys2Proof.Machine

/-! ## Answers -/

/-- A response put in hand after the zero bytes clocked out gives the ports of an answered command (R188, R191). -/
theorem Device.hold_clockOut (d : Device) (p : PortId) (n : Nat) (r : Response) :
    (d.clockOut p (List.replicate n 0)).hold p r = { d with ports := d.answeredPorts p n r } := by
  cases p <;> rfl

/-- A command of the Office port that passes the five tests, and whose body answers `rep` in the part `e`, is answered so
(R189, R191). -/
theorem State.run_commanded_office {s : State} {c : Cmd} {ps : List Byte} {body : Device → Device × Reply} {e : Device}
    {rep : Reply} (h : s.dev.takes .office) (hl : ps.length ≤ 62) (hr : c.permitted .office = true)
    (hk : c.lengthOk ps = true) (hb : ∀ z, body (s.dev.clockOut .office z) = (e.clockOut .office z, rep)) :
    s.run (Device.commanded .office c ps body) = .next (s.answered .office (ps.length + 3) (rep.response c) e) := by
  have hd : s.dev.atCommand .office = s.dev := rfl
  unfold State.run State.answered
  rw [Device.commanded_of_takes h hl hr hk, hd, hb, Device.hold_clockOut]

/-! ## STAGE_BEGIN (R5, R114) -/

/-- Settles O11: the three outcomes of STAGE_BEGIN, each read off its body. -/
theorem stageBeginStartsALoad : Obligations.StageBeginStartsALoad := by
  intro ps s h hp
  have answer : ∀ (b : Byte) (body : Device → Device × Reply) (e : Device) (rep : Reply),
      (∀ z, body (s.dev.clockOut .office z) = (e.clockOut .office z, rep)) →
      s.run (Device.commanded .office .stageBegin (b :: ps) body) =
        .next (s.answered .office 6 (rep.response .stageBegin) e) := by
    intro b body e rep hb
    have := State.run_commanded_office (c := .stageBegin) (ps := b :: ps) h (by simp [hp]) rfl (by simp [Cmd.lengthOk, hp]) hb
    simpa [hp] using this
  refine ⟨fun h0 => ⟨?_, ?_⟩, fun h0 ht => ⟨?_, ?_⟩, fun h0 ht => ⟨?_, ?_⟩⟩
  · exact answer 1 _ _ (.badParam []) fun z => by simp [stageBeginTimetable, h0]
  · exact answer 2 _ _ (.badParam []) fun z => by simp [stageBeginFares, h0]
  · exact answer 1 _ _ (.refused .busy []) fun z => by simp [stageBeginTimetable, h0, ht]
  · exact answer 2 _ _ (.refused .busy []) fun z => by simp [stageBeginFares, h0, ht]
  · exact answer 1 _ (s.dev.setStaged (.begun (u16At ps 0))) (.ok []) fun z => by
      simp [stageBeginTimetable, h0, ht]; rfl
  · exact answer 2 _ (s.dev.setStagedFares (.begun (u16At ps 0))) (.ok []) fun z => by
      simp [stageBeginFares, h0, ht]; rfl

/-! ## STAGE_PUT_DEST (R3) -/

/-- The length byte of a text as sent (R202). -/
theorem byteAt_beText {t : Text} (h : t.length < 256) : byteAt (beText t) 0 = t.length := by
  simp [byteAt, beText, be8, Nat.mod_eq_of_lt h]

/-- A text is read as it was sent (R202). -/
theorem textAt_beText {t : Text} (h : t.length < 256) : textAt (beText t) 0 = t := by
  rw [textAt, byteAt_beText h]
  simp [beText, be8]

/-- A text that the part takes: its length in the limit and its characters from 32 to 126 (R1). -/
theorem textOk_iff {n : Nat} {t : Text} :
    textOk n t = true ↔ 1 ≤ t.length ∧ t.length ≤ n ∧ ∀ c ∈ t, 32 ≤ c.toNat ∧ c.toNat ≤ 126 := by
  simp [textOk, and_assoc]

/-- Settles O12: the tests of STAGE_PUT_DEST in their order, on the name read back from its bytes. -/
theorem stagePutDestStoresTheName : Obligations.StagePutDestStoresTheName := by
  intro name s h hn
  have hlen : (beText name).length = name.length + 1 := by simp [beText, be8, Nat.add_comm]
  have htext : textAt (beText name) 0 = name := textAt_beText (by omega)
  have answer : ∀ (e : Device) (rep : Reply),
      (∀ z, runStagePutDest (beText name) (s.dev.clockOut .office z) = (e.clockOut .office z, rep)) →
      exec (.stagePutDest .office (beText name)) s =
        .next (s.answered .office (name.length + 4) (rep.response .stagePutDest) e) := by
    intro e rep hb
    have hk : Cmd.stagePutDest.lengthOk (beText name) = true := by
      simp [Cmd.lengthOk, hlen, byteAt_beText (t := name) (by omega), Nat.add_comm]
    have := State.run_commanded_office (c := .stagePutDest) h (by omega) rfl hk hb
    rw [hlen] at this
    exact this
  refine ⟨fun h1 => ?_, fun h1 h2 => ?_, fun h1 h2 h3 h4 => ⟨fun h5 => ?_, fun h5 => ?_⟩⟩
  · exact answer _ (.refused .notLoading []) fun z => by simp [runStagePutDest, h1]
  · have hbad : ¬ textOk 24 name = true := by
      rw [textOk_iff]
      rintro ⟨hpos, hle, hall⟩
      rcases h2 with rfl | h2 | ⟨c, hc, hr⟩
      · simp at hpos
      · omega
      · have := hall c hc; omega
    exact answer _ (.badParam []) fun z => by simp [runStagePutDest, h1, htext, hbad]
  · have hok : textOk 24 name = true := textOk_iff.2 ⟨h2, h3, h4⟩
    exact answer _ (.refused .full []) fun z => by simp [runStagePutDest, h1, htext, hok, h5]
  · have hok : textOk 24 name = true := textOk_iff.2 ⟨h2, h3, h4⟩
    have h6 : ¬ 32 ≤ s.dev.tt.staged.names.length := by omega
    exact answer (s.dev.setStaged (s.dev.tt.staged.addName name)) (.ok (be8 s.dev.tt.staged.names.length)) fun z => by
      simp [runStagePutDest, h1, htext, hok, h6]; rfl

/-! ## STAGE_CLOSE (R11, R117) -/

/-- No call of a bank is without a name (R11). -/
theorem TimetableBank.unnamed_eq_none {b : TimetableBank} : b.unnamed = none ↔ ∀ c ∈ b.calls, c.dest < b.names.length := by
  simp [TimetableBank.unnamed]

/-- The state a close leaves (R11). -/
theorem TimetableBank.closeState_eq (b : TimetableBank) (n : Nat) :
    b.closeState n = if n = b.calls.length ∧ ∀ c ∈ b.calls, c.dest < b.names.length then .ready else .broken := by
  simp [TimetableBank.closeState, TimetableBank.unnamed_eq_none]

/-- The data of a close, item by item (R11). -/
theorem TimetableBank.closeData_eq (b : TimetableBank) (n : Nat) :
    b.closeData n =
      [if n = b.calls.length ∧ ∀ c ∈ b.calls, c.dest < b.names.length then 3 else 4, BitVec.ofNat 8 b.calls.length,
        BitVec.ofNat 8 b.names.length, if n = b.calls.length then 0 else 1,
        if ∀ c ∈ b.calls, c.dest < b.names.length then 0 else 1] ++
        be16 (((b.calls.find? (fun c => decide (b.names.length ≤ c.dest))).map CallRec.train).getD 0) := by
  simp only [TimetableBank.closeData, TimetableBank.closeState_eq, be16Or0, be8, beFlag, bne]
  by_cases hall : ∀ c ∈ b.calls, c.dest < b.names.length
  · by_cases hn : n = b.calls.length <;>
      (simp [hn, if_pos hall, BankState.code, TimetableBank.unnamed]; exact hall)
  · by_cases hn : n = b.calls.length <;>
      (simp [hn, if_neg hall, BankState.code, TimetableBank.unnamed]; simpa using hall)

/-- The state a close leaves (R117). -/
theorem FareBank.closeState_eq (b : FareBank) (n : Nat) :
    b.closeState n = if n = b.dests.length ∧ b.rules ≠ none then .ready else .broken := by
  simp [FareBank.closeState, Option.isSome_iff_ne_none]

/-- The data of a close, item by item (R117). -/
theorem FareBank.closeData_eq (b : FareBank) (n : Nat) :
    b.closeData n =
      [if n = b.dests.length ∧ b.rules ≠ none then 3 else 4, BitVec.ofNat 8 b.dests.length,
        if n = b.dests.length then 0 else 1, if b.rules = none then 1 else 0] := by
  simp only [FareBank.closeData, FareBank.closeState_eq, be8, beFlag, bne]
  by_cases h1 : n = b.dests.length <;> cases b.rules <;> simp [h1, BankState.code]

/-- Settles O14: the two refusals of each item, and the close with the state and the data it gives. -/
theorem stageCloseJudgesTheBank : Obligations.StageCloseJudgesTheBank := by
  have answer : ∀ (b n : Byte) (s : State) (body : Device → Device × Reply) (e : Device) (rep : Reply),
      s.dev.takes .office → (∀ z, body (s.dev.clockOut .office z) = (e.clockOut .office z, rep)) →
      s.run (Device.commanded .office .stageClose [b, n] body) =
        .next (s.answered .office 5 (rep.response .stageClose) e) :=
    fun b n s body e rep h hb => State.run_commanded_office h (by simp) rfl rfl hb
  constructor
  · rintro n s _ h rfl
    have hn : byteAt [n] 0 = n.toNat := rfl
    refine ⟨fun h1 => ?_, fun h1 h2 => ?_, fun h1 h2 => ?_⟩
    · exact answer 1 n s _ _ (.refused .notLoading []) h fun z => by simp [stageCloseTimetable, h1]
    · exact answer 1 n s _ _ (.badParam []) h fun z => by simp [stageCloseTimetable, h1, hn, h2]
    · have h3 : ¬ 96 < n.toNat := by omega
      rw [← TimetableBank.closeState_eq, ← TimetableBank.closeData_eq]
      exact answer 1 n s _ _ (.ok (s.dev.tt.staged.closeData n.toNat)) h fun z => by
        simp [stageCloseTimetable, h1, hn, h3]; rfl
  · rintro n s _ h rfl
    have hn : byteAt [n] 0 = n.toNat := rfl
    refine ⟨fun h1 => ?_, fun h1 h2 => ?_, fun h1 h2 => ?_⟩
    · exact answer 2 n s _ _ (.refused .notLoading []) h fun z => by simp [stageCloseFares, h1]
    · exact answer 2 n s _ _ (.badParam []) h fun z => by simp [stageCloseFares, h1, hn, h2]
    · have h3 : ¬ 40 < n.toNat := by omega
      rw [← FareBank.closeState_eq, ← FareBank.closeData_eq]
      exact answer 2 n s _ _ (.ok (s.dev.fares.staged.closeData n.toNat)) h fun z => by
        simp [stageCloseFares, h1, hn, h3]; rfl

end Sys2Proof.Machine

/-! # STAGE_PUT_CALL: its checks, and the call read back from its bytes -/

namespace Sys2Proof.Machine

/-! ## Bytes as sent (R202) -/

theorem byteAt_lt (ps : List Byte) (i : Nat) : byteAt ps i < 256 := (ps.getD i 0).isLt

theorem u16At_lt (ps : List Byte) (i : Nat) : u16At ps i < 65536 := by
  have h0 := byteAt_lt ps i
  have h1 := byteAt_lt ps (i + 1)
  unfold u16At; omega

/-- A byte behind others. -/
theorem byteAt_append_right (pre ps : List Byte) (i : Nat) : byteAt (pre ++ ps) (pre.length + i) = byteAt ps i := by
  simp [byteAt, List.getElem?_append_right]

theorem u16At_append_right (pre ps : List Byte) (i : Nat) : u16At (pre ++ ps) (pre.length + i) = u16At ps i := by
  simp [u16At, byteAt_append_right, Nat.add_assoc]

theorem u24At_append_right (pre ps : List Byte) (i : Nat) : u24At (pre ++ ps) (pre.length + i) = u24At ps i := by
  simp [u24At, u16At_append_right, byteAt_append_right, Nat.add_assoc]

/-- A number is read from the bytes it was made of, most significant first. -/
theorem byteAt_of_getD {ps : List Byte} {i n : Nat} (hn : n < 256) (h : ps.getD i 0 = BitVec.ofNat 8 n) : byteAt ps i = n := by
  rw [byteAt, h, BitVec.toNat_ofNat]; omega

theorem u16At_of_getD {ps : List Byte} {i n : Nat} (hn : n < 65536) (h0 : ps.getD i 0 = BitVec.ofNat 8 (n / 256))
    (h1 : ps.getD (i + 1) 0 = BitVec.ofNat 8 n) : u16At ps i = n := by
  simp only [u16At, byteAt, h0, h1, BitVec.toNat_ofNat]; omega

theorem u24At_of_getD {ps : List Byte} {i n : Nat} (hn : n < 16777216) (h0 : ps.getD i 0 = BitVec.ofNat 8 (n / 65536))
    (h1 : ps.getD (i + 1) 0 = BitVec.ofNat 8 (n / 256)) (h2 : ps.getD (i + 2) 0 = BitVec.ofNat 8 n) : u24At ps i = n := by
  simp only [u24At, u16At, byteAt, h0, h1, h2, BitVec.toNat_ofNat]; omega

/-! ## Checks in their order -/

/-- No check fails exactly when all of them pass. -/
theorem firstFailing_eq_none {n : Nat} {l : List Bool} : firstFailing n l = none ↔ ∀ b ∈ l, b = true := by
  induction l generalizing n with
  | nil => simp [firstFailing]
  | cons b bs ih => cases b <;> simp [firstFailing, ih]

/-- The first check that fails is the one behind nothing but checks that pass. -/
theorem firstFailing_eq_some {n i : Nat} {l : List Bool} (hi : l[i]? = some false) (hb : ∀ j < i, l[j]? = some true) :
    firstFailing n l = some (n + i) := by
  induction l generalizing n i with
  | nil => simp at hi
  | cons b bs ih =>
    cases i with
    | zero => simp at hi; simp [hi, firstFailing]
    | succ i =>
      have h0 : b = true := by simpa using hb 0 (by omega)
      have := ih (n := n + 1) (i := i) (by simpa using hi) (fun j hj => by simpa using hb (j + 1) (by omega))
      simp [h0, firstFailing, this]; omega

/-- A list of outcomes gives the outcome of each check, the checks numbered from 1. -/
def Outcomes (check : Nat → Prop) (l : List Bool) : Prop := ∀ i b, l[i]? = some b → (b = true ↔ check (i + 1))

/-- The first check to fail, as the statements number the checks, is the one the part answers. -/
theorem Outcomes.firstFailing {check : Nat → Prop} {l : List Bool} (h : Outcomes check l) {k : Nat}
    (hk : FirstToFail check l.length k) : firstFailing 1 l = some k := by
  obtain ⟨h1, hle, hfail, hbefore⟩ := hk
  have hget : ∀ j, j < k → l[j]? = some l[j]! := fun j hj => by
    rw [List.getElem?_eq_getElem (by omega), getElem!_pos l j (by omega)]
  have hlast : l[k - 1]? = some false := by
    have hiff := h _ _ (hget (k - 1) (by omega))
    rw [Nat.sub_add_cancel h1] at hiff
    rw [hget (k - 1) (by omega), Option.some_inj]
    simpa [hfail] using hiff
  have := firstFailing_eq_some (n := 1) hlast fun j hj => by
    rw [hget j (by omega), Option.some_inj]
    exact (h _ _ (hget j (by omega))).2 (hbefore (j + 1) (by omega) (by omega))
  rw [this, Nat.add_sub_cancel' h1]

/-- Where all checks pass, as the statements number them, the part finds none that fails. -/
theorem Outcomes.firstFailing_none {check : Nat → Prop} {l : List Bool} (h : Outcomes check l)
    (hall : AllPass check l.length) : Machine.firstFailing 1 l = none := by
  rw [firstFailing_eq_none]
  intro b hb
  obtain ⟨i, hi, rfl⟩ := List.mem_iff_getElem.1 hb
  exact (h i _ (List.getElem?_eq_getElem hi)).2 (hall (i + 1) (by omega) (by omega))

/-! ## The checks of a route (R8) -/

theorem pointsOk_iff {l : List RoutePoint} :
    pointsOk l = true ↔ (∀ r ∈ l, 1 ≤ r.point ∧ r.point ≤ 2047) ∧ (l.map RoutePoint.point).Nodup := by
  simp [pointsOk]

theorem passingRises_iff {l : List RoutePoint} :
    passingRises l = true ↔ l.IsChain (fun a b => a.passing < b.passing) := by
  induction l with
  | nil => simp [passingRises]
  | cons a l ih => cases l <;> simp_all [passingRises]

theorem marginFalls_iff {l : List RoutePoint} :
    marginFalls l = true ↔ l.IsChain (fun a b => b.margin ≤ a.margin) := by
  induction l with
  | nil => simp [marginFalls]
  | cons a l ih => cases l <;> simp_all [marginFalls]

theorem passingOk_iff {l : List RoutePoint} {n : Nat} :
    passingOk l n = true ↔ l.IsChain (fun a b => a.passing < b.passing) ∧ ∀ r, l.getLast? = some r → r.passing ≤ n := by
  rw [passingOk, Bool.and_eq_true, passingRises_iff]
  cases l.getLast? <;> simp

theorem marginsOk_iff {l : List RoutePoint} :
    marginsOk l = true ↔ (∀ r ∈ l, r.margin ≤ 900) ∧ l.IsChain (fun a b => b.margin ≤ a.margin) := by
  simp [marginsOk, marginFalls_iff]

/-- The passing times rise along the whole route and none lies after `n`, as check 13 tests them one by one. -/
theorem passingOk_iff_pairwise {l : List RoutePoint} {n : Nat} :
    passingOk l n = true ↔ l.Pairwise (fun a b => a.passing < b.passing) ∧ ∀ r ∈ l, r.passing ≤ n := by
  have : IsTrans RoutePoint (fun a b => a.passing < b.passing) := ⟨fun _ _ _ => Nat.lt_trans⟩
  rw [passingOk_iff, List.isChain_iff_pairwise]
  refine and_congr_right fun hp => ⟨fun hlast r hr => ?_, fun hall r hr => hall r (List.mem_of_getLast? hr)⟩
  have hne : l ≠ [] := List.ne_nil_of_mem hr
  have hl := hlast _ (List.getLast?_eq_some_getLast hne)
  rw [← List.dropLast_append_getLast hne] at hp hr
  rcases List.mem_append.1 hr with hr | hr
  · exact (List.pairwise_append.1 hp).2.2 r hr _ (List.mem_singleton_self _) |>.le.trans hl
  · rw [List.mem_singleton.1 hr]; exact hl

theorem marginsOk_iff_pairwise {l : List RoutePoint} :
    marginsOk l = true ↔ l.Pairwise (fun a b => b.margin ≤ a.margin) ∧ ∀ r ∈ l, r.margin ≤ 900 := by
  have : IsTrans RoutePoint (fun a b => b.margin ≤ a.margin) := ⟨fun _ _ _ h1 h2 => Nat.le_trans h2 h1⟩
  rw [marginsOk_iff, List.isChain_iff_pairwise, and_comm]

/-! ## The outcomes of the checks on the bytes sent (R8) -/

/-- The route points read one by one. -/
theorem routeAt_eq (ps : List Byte) (i n : Nat) :
    routeAt ps i n = (List.range n).map (fun j =>
      { point := u16At ps (i + 7 * j), passing := u24At ps (i + 2 + 7 * j), margin := u16At ps (i + 5 + 7 * j) }) := by
  induction n generalizing i with
  | zero => rfl
  | succ n ih =>
    rw [routeAt, ih, List.range_succ_eq_map, List.map_cons, List.map_map]
    refine congrArg₂ List.cons (by simp) (List.map_congr_left fun j _ => ?_)
    simp only [Function.comp, Nat.mul_succ, RoutePoint.mk.injEq]
    refine ⟨congrArg _ ?_, congrArg _ ?_, congrArg _ ?_⟩ <;> omega

/-- The route of a call as sent. -/
theorem RawCall.parse_route (ps : List Byte) :
    (RawCall.parse ps).route = (List.range (byteAt ps 13)).map (sentPoint ps) := routeAt_eq ps 16 _

theorem isChain_map_range {α : Type} {R : α → α → Prop} {f : Nat → α} {n : Nat} :
    ((List.range n).map f).IsChain R ↔ ∀ j, j + 1 < n → R (f j) (f (j + 1)) := by
  rw [List.isChain_map, List.isChain_range]
  exact forall_congr' fun j => by rw [Nat.lt_sub_iff_add_lt]

theorem getLast?_map_range {α : Type} {f : Nat → α} {n : Nat} {x : α} :
    ((List.range n).map f).getLast? = some x ↔ ∃ j, j + 1 = n ∧ f j = x := by
  cases n with
  | zero => simp
  | succ n => simp [List.range_succ]

theorem nodup_map_range {f : Nat → Nat} {n : Nat} :
    ((List.range n).map f).Nodup ↔ ∀ i j, i < j → j < n → f i ≠ f j := by
  rw [List.Nodup, List.pairwise_map, List.pairwise_iff_getElem]
  simp only [List.length_range, List.getElem_range]
  exact ⟨fun h i j hij hj => h i j (by omega) hj hij, fun h i j _ hj hij => h i j hij hj⟩

theorem Direction.ofCode_isSome {n : Nat} : (Direction.ofCode n).isSome = true ↔ n = 1 ∨ n = 2 := by
  match n with
  | 0 | 1 | 2 => simp [Direction.ofCode]
  | n + 3 => simp [Direction.ofCode]

theorem CallKind.ofCode_isSome {n : Nat} : (CallKind.ofCode n).isSome = true ↔ 1 ≤ n ∧ n ≤ 3 := by
  match n with
  | 0 | 1 | 2 | 3 => simp [CallKind.ofCode]
  | n + 4 => simp [CallKind.ofCode]

/-- The sixteen checks on a call as sent come out as R8 numbers them. -/
theorem RawCall.checks_outcomes (own : Nat) (ps : List Byte) :
    Outcomes (CallCheck own ps) ((RawCall.parse ps).checks own) := by
  intro i b h
  have hlt : i < 16 := (List.getElem?_eq_some_iff.1 h).1
  interval_cases i <;> (obtain rfl := Option.some_inj.1 h; simp only [CallCheck])
  · simp only [Bool.and_eq_true, decide_eq_true_eq]; rfl
  · exact Direction.ofCode_isSome
  · exact CallKind.ofCode_isSome
  · simp only [Bool.and_eq_true, decide_eq_true_eq]; rfl
  · simp only [Bool.and_eq_true, decide_eq_true_eq]; rfl
  · simp only [Bool.and_eq_true, decide_eq_true_eq]; rfl
  · simp only [Bool.and_eq_true, decide_eq_true_eq]; rfl
  · simp only [Bool.or_eq_true, bne_iff_ne, beq_iff_eq, ← imp_iff_not_or]; rfl
  · simp only [decide_eq_true_eq]; rfl
  · simp [RawCall.parse_route]
  · simp [pointsOk_iff, RawCall.parse_route, List.map_map, nodup_map_range]
  · simp [RawCall.parse_route]
  · simp only [passingOk_iff, RawCall.parse_route, isChain_map_range, getLast?_map_range]
    refine and_congr_right fun _ => ⟨fun hl j hj => hl _ ⟨j, hj, rfl⟩, ?_⟩
    rintro hl _ ⟨j, hj, rfl⟩
    exact hl j hj
  · simp [marginsOk_iff, RawCall.parse_route, isChain_map_range]
  · simp only [RawCall.parse_route, List.length_map, List.length_range, beq_iff_eq]
    split <;> rename_i hk
    · rw [if_pos (show byteAt ps 3 = 2 from hk)]; simp only [Bool.and_eq_true, decide_eq_true_eq]; rfl
    · rw [if_neg (show ¬ byteAt ps 3 = 2 from hk)]; simp only [beq_iff_eq]; rfl
  · simp only [RawCall.parse_route, List.length_map, List.length_range, decide_eq_true_eq]; rfl

/-! ## The call and its bytes (R7, R203) -/

/-- A call as STAGE_PUT_CALL sends it. -/
def CallRec.raw (c : CallRec) : RawCall :=
  { train := c.train, direction := directionCode c.direction, kind := c.kind.code, platform := c.platform, days := c.days.toNat,
    schedArr := c.schedArr, schedDep := c.schedDep, dest := c.dest, route := c.route, cutoff := c.cutoff.getD 0,
    approach := c.approach.getD 0 }

/-- Route points are read as they were sent. -/
theorem routeAt_params (pre : List Byte) (l : List RoutePoint)
    (h : ∀ r ∈ l, r.point < 65536 ∧ r.passing < 16777216 ∧ r.margin < 65536) :
    routeAt (pre ++ l.flatMap RoutePoint.params) pre.length l.length = l := by
  induction l generalizing pre with
  | nil => rfl
  | cons r rs ih =>
    obtain ⟨⟨hpoint, hpassing, hmargin⟩, hrs⟩ := List.forall_mem_cons.1 h
    have htail := ih (pre ++ r.params) hrs
    have hlen : (pre ++ r.params).length = pre.length + 7 := by simp [RoutePoint.params, be16, be24]
    rw [hlen, List.append_assoc] at htail
    rw [List.length_cons, routeAt, List.flatMap_cons, htail, u16At_append_right, u24At_append_right]
    have h0 : u16At (pre ++ (r.params ++ rs.flatMap RoutePoint.params)) pre.length = r.point := by
      rw [← Nat.add_zero pre.length, u16At_append_right]; exact u16At_of_getD hpoint rfl rfl
    rw [h0]
    refine congrArg₂ List.cons ?_ rfl
    rw [show u24At (r.params ++ rs.flatMap RoutePoint.params) 2 = r.passing from u24At_of_getD hpassing rfl rfl rfl,
      show u16At (r.params ++ rs.flatMap RoutePoint.params) 5 = r.margin from u16At_of_getD hmargin rfl rfl]

theorem directionCode_lt (x : Direction) : directionCode x < 256 := by cases x <;> decide

theorem CallKind.code_lt (k : CallKind) : k.code < 256 := by cases k <;> decide

theorem CallKind.code_eq_two {k : CallKind} : k.code = 2 ↔ k = .request := by cases k <;> decide

theorem CallKind.code_eq_three {k : CallKind} : k.code = 3 ↔ k = .pass := by cases k <;> decide

theorem CallRec.Valid.cutoff_le {c : CallRec} (h : c.Valid) : c.cutoff.getD 0 ≤ c.route.length := by
  cases hc : c.cutoff with
  | none => simp
  | some k => exact (h.cutoff.2 k hc).2

theorem CallRec.Valid.approach_le {c : CallRec} (h : c.Valid) : c.approach.getD 0 ≤ c.route.length := by
  cases hc : c.approach with
  | none => simp
  | some k => exact (h.approach k hc).2

/-- The parameters of a call, byte by byte as far as its route (R203). -/
theorem CallRec.params_eq (c : CallRec) : c.params =
    [BitVec.ofNat 8 (c.train / 256), BitVec.ofNat 8 c.train, BitVec.ofNat 8 (directionCode c.direction),
      BitVec.ofNat 8 c.kind.code, BitVec.ofNat 8 c.platform, BitVec.ofNat 8 c.days.toNat,
      BitVec.ofNat 8 (c.schedArr / 65536), BitVec.ofNat 8 (c.schedArr / 256), BitVec.ofNat 8 c.schedArr,
      BitVec.ofNat 8 (c.schedDep / 65536), BitVec.ofNat 8 (c.schedDep / 256), BitVec.ofNat 8 c.schedDep,
      BitVec.ofNat 8 c.dest, BitVec.ofNat 8 c.route.length, BitVec.ofNat 8 (c.cutoff.getD 0),
      BitVec.ofNat 8 (c.approach.getD 0)] ++ c.route.flatMap RoutePoint.params := by
  simp only [CallRec.params, be8, be16, be24, List.cons_append, List.nil_append]

/-- A valid call is read back from its parameters as it was sent. -/
theorem RawCall.parse_params {c : CallRec} (h : c.Valid) : RawCall.parse c.params = c.raw := by
  obtain ⟨_, htrain⟩ := h.train
  obtain ⟨_, hplatform⟩ := h.platform
  obtain ⟨harr, _, hdep⟩ := h.times
  obtain ⟨_, hlen⟩ := h.length
  have hcut := h.cutoff_le
  have happ := h.approach_le
  have hdays : c.days.toNat < 128 := c.days.isLt
  have hdest := h.dest
  rw [CallRec.params_eq]
  set ps := _ ++ c.route.flatMap RoutePoint.params with hps
  have hcount : byteAt ps 13 = c.route.length := byteAt_of_getD (by omega) rfl
  have hroute : routeAt ps 16 c.route.length = c.route := routeAt_params _ c.route fun r hr =>
    ⟨by have := h.points.1 r hr; omega, by have := h.rising.2 r hr; omega, by have := h.margins.2 r hr; omega⟩
  rw [RawCall.parse, hcount, hroute, CallRec.raw, RawCall.mk.injEq]
  exact ⟨u16At_of_getD (by omega) rfl rfl, byteAt_of_getD (directionCode_lt _) rfl, byteAt_of_getD (CallKind.code_lt _) rfl,
    byteAt_of_getD (by omega) rfl, byteAt_of_getD (by omega) rfl, u24At_of_getD (by omega) rfl rfl rfl,
    u24At_of_getD (by omega) rfl rfl rfl, byteAt_of_getD (by omega) rfl, rfl, byteAt_of_getD (by omega) rfl,
    byteAt_of_getD (by omega) rfl⟩

/-- A call comes out of its raw form as it went in. -/
theorem CallRec.toCall_raw {c : CallRec} (h : c.Valid) : c.raw.toCall = c := by
  have hdir : (Direction.ofCode (directionCode c.direction)).getD .up = c.direction := by cases c.direction <;> rfl
  have hkind : (CallKind.ofCode c.kind.code).getD .stop = c.kind := by cases c.kind <;> rfl
  have hidx : ∀ o : Option Nat, (∀ k, o = some k → 1 ≤ k) → indexByte (o.getD 0) = o := by
    intro o ho
    cases o with
    | none => rfl
    | some k => have := ho k rfl; simp [indexByte]; omega
  simp only [RawCall.toCall, CallRec.raw, hdir, hkind, BitVec.ofNat_toNat, BitVec.setWidth_eq,
    hidx c.cutoff (fun k hk => (h.cutoff.2 k hk).1), hidx c.approach (fun k hk => (h.approach k hk).1)]

/-- What the sixteen checks ask of a raw call at a halt of the own point given, in their order (R8). -/
structure RawCall.Passes (r : RawCall) (own : Nat) : Prop where
  train : 1 ≤ r.train ∧ r.train ≤ 9999
  direction : r.direction = 1 ∨ r.direction = 2
  kind : 1 ≤ r.kind ∧ r.kind ≤ 3
  platform : 1 ≤ r.platform ∧ r.platform ≤ 4
  days : 1 ≤ r.days ∧ r.days ≤ 127
  seconds : r.schedArr ≤ 86399 ∧ r.schedDep ≤ 86399
  times : r.schedArr ≤ r.schedDep ∧ r.schedDep ≤ r.schedArr + 1800
  passing : r.kind = 3 → r.schedDep = r.schedArr
  dest : r.dest ≤ 31
  length : 1 ≤ r.route.length ∧ r.route.length ≤ 6
  points : (∀ p ∈ r.route, 1 ≤ p.point ∧ p.point ≤ 2047) ∧ (r.route.map RoutePoint.point).Nodup
  foreign : ∀ p ∈ r.route, p.point ≠ own
  rising : r.route.Pairwise (fun a b => a.passing < b.passing) ∧ ∀ p ∈ r.route, p.passing ≤ r.schedArr
  margins : r.route.Pairwise (fun a b => b.margin ≤ a.margin) ∧ ∀ p ∈ r.route, p.margin ≤ 900
  cutoff : if r.kind = 2 then 1 ≤ r.cutoff ∧ r.cutoff ≤ r.route.length else r.cutoff = 0
  approach : r.approach ≤ r.route.length

/-- No check of a raw call fails exactly when it passes them all. -/
theorem RawCall.firstFailing_eq_none_iff {r : RawCall} {own : Nat} :
    firstFailing 1 (r.checks own) = none ↔ r.Passes own := by
  have hcut : (if r.kind = 2 then decide (1 ≤ r.cutoff) && decide (r.cutoff ≤ r.route.length) else r.cutoff == 0) = true ↔
      if r.kind = 2 then 1 ≤ r.cutoff ∧ r.cutoff ≤ r.route.length else r.cutoff = 0 := by
    by_cases hk : r.kind = 2 <;> simp [hk]
  rw [firstFailing_eq_none]
  simp only [RawCall.checks, List.forall_mem_cons, List.not_mem_nil, false_implies, implies_true, and_true,
    Bool.and_eq_true, decide_eq_true_eq, Bool.or_eq_true, bne_iff_ne, beq_iff_eq, ← imp_iff_not_or, pointsOk_iff,
    passingOk_iff_pairwise, marginsOk_iff_pairwise, List.all_eq_true, Direction.ofCode_isSome, CallKind.ofCode_isSome, hcut]
  exact ⟨fun ⟨h1, h2, h3, h4, h5, h6, h7, h8, h9, h10, h11, h12, h13, h14, h15, h16⟩ =>
      ⟨h1, h2, h3, h4, h5, h6, h7, h8, h9, h10, h11, h12, h13, h14, h15, h16⟩,
    fun h => ⟨h.train, h.direction, h.kind, h.platform, h.days, h.seconds, h.times, h.passing, h.dest, h.length, h.points,
      h.foreign, h.rising, h.margins, h.cutoff, h.approach⟩⟩

/-- A valid call with no route point at the halt's own point passes the sixteen checks. -/
theorem CallRec.passes_raw {c : CallRec} {own : Nat} (h : c.Valid) (ho : ∀ r ∈ c.route, r.point ≠ own) :
    c.raw.Passes own := by
  have hdays : c.days.toNat ≠ 0 := fun h0 => h.days (BitVec.eq_of_toNat_eq (by simpa using h0))
  obtain ⟨harr, hlate, hdep⟩ := h.times
  exact
    { train := h.train
      direction := by show directionCode c.direction = 1 ∨ directionCode c.direction = 2; cases c.direction <;> decide
      kind := by show 1 ≤ c.kind.code ∧ c.kind.code ≤ 3; cases c.kind <;> decide
      platform := h.platform
      days := ⟨Nat.pos_of_ne_zero hdays, Nat.le_of_lt_succ c.days.isLt⟩
      seconds := ⟨harr.trans hdep, hdep⟩
      times := ⟨harr, hlate⟩
      passing := fun hk => h.passing (CallKind.code_eq_three.1 hk)
      dest := h.dest
      length := h.length
      points := h.points
      foreign := ho
      rising := h.rising
      margins := h.margins
      cutoff := by
        have hreq := h.cutoff.1
        simp only [CallRec.raw, CallKind.code_eq_two, ← hreq]
        cases hc : c.cutoff with
        | none => simp
        | some k => simpa using h.cutoff.2 k hc
      approach := h.approach_le }

/-- An index byte in range is an index in range. -/
theorem indexByte_mem {n k m : Nat} (hk : indexByte n = some k) (hm : n ≤ m) : 1 ≤ k ∧ k ≤ m := by
  unfold indexByte at hk
  split at hk
  · simp at hk
  · cases hk; omega

/-- The call that passes the sixteen checks is valid, whatever the halt's own point. -/
theorem RawCall.toCall_valid {r : RawCall} {own : Nat} (h : r.Passes own) : r.toCall.Valid := by
  obtain ⟨hd1, hd2⟩ := h.days
  have hkind : (r.toCall.kind = .request ↔ r.kind = 2) ∧ (r.toCall.kind = .pass ↔ r.kind = 3) := by
    obtain ⟨hk1, hk3⟩ := h.kind
    have : r.kind = 1 ∨ r.kind = 2 ∨ r.kind = 3 := by omega
    rcases this with hk | hk | hk <;> simp [RawCall.toCall, hk, CallKind.ofCode]
  have hcut := h.cutoff
  exact
    { train := h.train
      platform := h.platform
      days := fun h0 => by
        have : r.days % 128 = 0 := by simpa [RawCall.toCall] using congrArg BitVec.toNat h0
        omega
      times := ⟨h.times.1, h.times.2, h.seconds.2⟩
      passing := fun hp => h.passing (hkind.2.1 hp)
      dest := h.dest
      length := h.length
      points := h.points
      rising := h.rising
      margins := h.margins
      cutoff := by
        rw [hkind.1]
        by_cases hk : r.kind = 2
        · rw [if_pos hk] at hcut
          have h0 : r.cutoff ≠ 0 := by omega
          exact ⟨by simp [RawCall.toCall, indexByte, h0, hk], fun k hc => indexByte_mem hc hcut.2⟩
        · rw [if_neg hk] at hcut
          simp [RawCall.toCall, indexByte, hcut, hk]
      approach := fun k hk => indexByte_mem hk h.approach }

/-! ## The place of a new record -/

/-- An inserted record stands behind all that it does not come before, and in front of one that it does. -/
theorem insertBy_split {α : Type} (b : α → α → Bool) (x : α) (l : List α) :
    ∃ before after, l = before ++ after ∧ insertBy b x l = before ++ x :: after ∧
      (∀ y ∈ before, b x y = false) ∧ ∀ y, after.head? = some y → b x y = true := by
  induction l with
  | nil => exact ⟨[], [], rfl, rfl, by simp, by simp⟩
  | cons z zs ih =>
    by_cases hz : b x z = true
    · exact ⟨[], z :: zs, rfl, by simp [insertBy, hz], by simp, by simpa using hz⟩
    · obtain ⟨before, after, rfl, hins, hb, ha⟩ := ih
      exact ⟨z :: before, after, rfl, by simp [insertBy, hz, hins], List.forall_mem_cons.2 ⟨by simpa using hz, hb⟩, ha⟩

/-- The bank order of R1. -/
theorem CallRec.before_iff {a b : CallRec} :
    a.before b = true ↔ a.schedDep < b.schedDep ∨ a.schedDep = b.schedDep ∧ a.train < b.train := by
  simp [CallRec.before]

/-- No stored call is a duplicate of a new one: each of its train runs on other weekdays (R10). -/
theorem TimetableBank.duplicate_eq_none {b : TimetableBank} {c : CallRec} :
    b.duplicate c = none ↔ ∀ x ∈ b.calls, x.train = c.train → x.days &&& c.days = 0 := by
  simp [TimetableBank.duplicate]

/-! ## STAGE_PUT_CALL (R7, R8, R10) -/

/-- Settles O13: the four tests in their order. A valid call is read back from its bytes and passes them, and the numbered
checks of a refusal are those of `CallCheck`. -/
theorem stagePutCallStoresOrRefuses : Obligations.StagePutCallStoresOrRefuses := by
  have answer : ∀ (ps : List Byte) (s : State) (e : Device) (rep : Reply), s.dev.takes .office → ps.length ≤ 62 →
      ps.length = 16 + 7 * byteAt ps 13 →
      (∀ z, runStagePutCall ps (s.dev.clockOut .office z) = (e.clockOut .office z, rep)) →
      exec (.stagePutCall .office ps) s = .next (s.answered .office (ps.length + 3) (rep.response .stagePutCall) e) :=
    fun ps s e rep h hl hc hb => State.run_commanded_office h hl rfl (by simpa [Cmd.lengthOk] using hc) hb
  constructor
  · intro c s h hv hown hload hroom hsingle
    obtain ⟨before, after, hsplit, hins, hb, ha⟩ := insertBy_split CallRec.before c s.dev.tt.staged.calls
    refine ⟨before, after, hsplit, fun x hx => ?_, fun x hx => CallRec.before_iff.1 (ha x hx), ?_⟩
    · rw [← CallRec.before_iff, hb x hx]; simp
    · have hparse : RawCall.parse c.params = c.raw := RawCall.parse_params hv
      have hpass : firstFailing 1 (c.raw.checks s.dev.halt.ownPoint) = none :=
        RawCall.firstFailing_eq_none_iff.2 (CallRec.passes_raw hv hown)
      have hnodup : s.dev.tt.staged.duplicate c = none := TimetableBank.duplicate_eq_none.2 hsingle
      have hlen : c.params.length = 16 + 7 * c.route.length := by
        simp [CallRec.params_eq, List.length_flatMap, RoutePoint.params, be16, be24]; omega
      have hcount : byteAt c.params 13 = c.route.length := by
        have := congrArg (fun r => r.route.length) hparse
        simpa [RawCall.parse_route, CallRec.raw] using this
      have h6 := hv.length.2
      have hfull : ¬ 96 ≤ s.dev.tt.staged.calls.length := by omega
      have := answer c.params s (s.dev.setStaged (s.dev.tt.staged.addCall c)) (.ok (be8 (s.dev.tt.staged.calls.length + 1)))
        h (by omega) (by omega) fun z => by
          simp [runStagePutCall, hload, hparse, hpass, hfull, CallRec.toCall_raw hv, hnodup]; rfl
      rw [hlen, show 16 + 7 * c.route.length + 3 = 19 + 7 * c.route.length by omega] at this
      rw [this, ← hins]
      rfl
  · intro ps s h hl hc
    have hout := RawCall.checks_outcomes s.dev.halt.ownPoint ps
    refine ⟨fun hload => ?_, fun hload => ⟨fun k hk => ?_, fun hall => ?_⟩⟩
    · exact answer ps s _ (.refused .notLoading []) h hl hc fun z => by simp [runStagePutCall, hload]
    · have hfail := hout.firstFailing hk
      exact answer ps s _ (.badParam (be8 k)) h hl hc fun z => by simp [runStagePutCall, hload, hfail]
    · have hpass := hout.firstFailing_none hall
      refine ⟨fun hfull => ?_, fun before after x hroom hsplit ht hd hfirst => ?_⟩
      · exact answer ps s _ (.refused .full []) h hl hc fun z => by simp [runStagePutCall, hload, hpass, hfull]
      · have hdup : s.dev.tt.staged.duplicate (RawCall.parse ps).toCall = some x := by
          have hx : (x.train == u16At ps 0 && (x.days &&& BitVec.ofNat 7 (byteAt ps 5)) != 0) = true := by
            simpa [ht] using hd
          refine List.find?_eq_some_iff_append.2 ⟨hx, before, after, hsplit, fun y hy => ?_⟩
          have := hfirst y hy
          rw [ht] at this
          simpa [RawCall.toCall, RawCall.parse, imp_iff_not_or] using this
        have hfull : ¬ 96 ≤ s.dev.tt.staged.calls.length := by omega
        exact answer ps s _ (.refused .duplicate (be16 x.train ++ be8 x.days.toNat)) h hl hc fun z => by
          simp [runStagePutCall, hload, hpass, hfull, hdup]

end Sys2Proof.Machine

/-! # The laws of the banks -/

namespace Sys2Proof.Machine

/-! ## Inserting in an order -/

/-- An insertion is a reordering of the list with the record in front. -/
theorem insertBy_perm {α : Type} (b : α → α → Bool) (x : α) (l : List α) : (insertBy b x l).Perm (x :: l) := by
  obtain ⟨before, after, rfl, hins, -, -⟩ := insertBy_split b x l
  rw [hins]
  exact List.perm_middle

/-- An insertion keeps a list in order. -/
theorem insertBy_ordered {α : Type} {b : α → α → Bool} (htrans : ∀ x y z, b x y = true → b y z = true → b x z = true)
    (hasymm : ∀ x y, b x y = true → b y x = false) (x : α) {l : List α} (h : l.Pairwise (fun a c => b c a = false)) :
    (insertBy b x l).Pairwise (fun a c => b c a = false) := by
  obtain ⟨before, after, rfl, hins, hb, ha⟩ := insertBy_split b x l
  obtain ⟨hbefore, hafter, hcross⟩ := List.pairwise_append.1 h
  rw [hins, List.pairwise_append, List.pairwise_cons]
  refine ⟨hbefore, ⟨fun z hz => ?_, hafter⟩, fun y hy z hz => ?_⟩
  · cases after with
    | nil => simp at hz
    | cons a as =>
      have hxa := ha a rfl
      rcases List.mem_cons.1 hz with rfl | hz
      · exact hasymm _ _ hxa
      · by_contra hzx
        have := htrans z x a (by simpa using hzx) hxa
        simp [(List.pairwise_cons.1 hafter).1 z hz] at this
  · rcases List.mem_cons.1 hz with rfl | hz
    · exact hb y hy
    · exact hcross y hy z hz

theorem CallRec.before_trans (a b c : CallRec) (h1 : a.before b = true) (h2 : b.before c = true) : a.before c = true := by
  rw [CallRec.before_iff] at *; omega

theorem CallRec.before_asymm (a b : CallRec) (h : a.before b = true) : b.before a = false := by
  rw [← Bool.not_eq_true, CallRec.before_iff] at *; omega

/-! ## A timetable bank (R1 to R11) -/

namespace TimetableBank

theorem cleared_lawful : TimetableBank.cleared.Lawful :=
  ⟨by decide, by decide, by simp [cleared], by simp [cleared], by simp [cleared], by simp [cleared], by simp [cleared],
    fun _ => rfl, by simp [cleared]⟩

/-- A bank in which a load has begun is lawful (R5). -/
theorem begun_lawful {id : Nat} (h1 : 1 ≤ id) (h2 : id ≤ 65535) : (TimetableBank.begun id).Lawful :=
  ⟨by simp [begun], by simp [begun], by simp [begun], by simp [begun], by simp [begun], by simp [begun], by simp [begun],
    by simp [begun], fun _ => ⟨id, rfl, h1, h2⟩⟩

/-- A name more keeps the law of a LOADING bank (R3). -/
theorem addName_lawful {b : TimetableBank} (h : b.Lawful) (hload : b.state = .loading) {t : Text} (ht : textOk 24 t = true)
    (hroom : b.names.length < 32) : (b.addName t).Lawful where
  calls := h.calls
  names := by simp only [addName, List.length_append, List.length_singleton]; omega
  texts := by simpa only [addName, List.forall_mem_append, List.forall_mem_singleton] using ⟨h.texts, ht⟩
  valid := h.valid
  ordered := h.ordered
  single := h.single
  named := by simp [addName, hload]
  empty := by simp [addName, hload]
  id := h.id

/-- A valid call more, of a train that has no call on a shared weekday, keeps the law of a LOADING bank (R2, R8, R10). -/
theorem addCall_lawful {b : TimetableBank} (h : b.Lawful) (hload : b.state = .loading) {c : CallRec} (hc : c.Valid)
    (hroom : b.calls.length < 96) (hd : b.duplicate c = none) : (b.addCall c).Lawful where
  calls := by simp only [addCall, insertBy_length]; omega
  names := h.names
  texts := h.texts
  valid := fun x hx => by
    rcases mem_insertBy.1 hx with rfl | hx
    · exact hc
    · exact h.valid x hx
  ordered := insertBy_ordered CallRec.before_trans CallRec.before_asymm c h.ordered
  single := by
    have hsymm : ∀ {x y : CallRec}, (x.train = y.train → x.days &&& y.days = 0) → y.train = x.train → y.days &&& x.days = 0 :=
      fun hxy ht => by rw [BitVec.and_comm]; exact hxy ht.symm
    refine ((insertBy_perm _ c b.calls).pairwise_iff hsymm).2 (List.pairwise_cons.2 ⟨fun x hx ht => ?_, h.single⟩)
    rw [BitVec.and_comm]
    exact duplicate_eq_none.1 hd x hx ht.symm
  named := by simp [addCall, hload]
  empty := by simp [addCall, hload]
  id := h.id

/-- A lawful bank that is not EMPTY may take any state but EMPTY, and READY where every call has a name. -/
theorem withState_lawful {b : TimetableBank} (h : b.Lawful) (hb : b.state ≠ .empty) {x : BankState} (hx : x ≠ .empty)
    (hr : x = .ready → ∀ c ∈ b.calls, c.dest < b.names.length) : ({ b with state := x } : TimetableBank).Lawful :=
  ⟨h.calls, h.names, h.texts, h.valid, h.ordered, h.single, hr, fun he => absurd he hx, fun _ => h.id hb⟩

/-- A close keeps the law (R11). -/
theorem closed_lawful {b : TimetableBank} (h : b.Lawful) (hload : b.state = .loading) (n : Nat) :
    ({ b with state := b.closeState n } : TimetableBank).Lawful := by
  refine withState_lawful h (by simp [hload]) ?_ fun hr => ?_
  · rw [closeState_eq]; split <;> simp
  · rw [closeState_eq] at hr
    split at hr
    · next hall => exact hall.2
    · simp at hr

/-- A start keeps the law: a bank found LOADING becomes BROKEN (R18). -/
theorem afterStart_lawful {b : TimetableBank} (h : b.Lawful) : ({ b with state := b.state.afterStart } : TimetableBank).Lawful := by
  unfold BankState.afterStart
  split
  · next hload => exact withState_lawful h (by simp [hload]) (by simp) (by simp)
  · exact h

end TimetableBank

/-! ## A fare bank (R111 to R117) -/

/-- A record that passes the four checks is valid (R115). -/
theorem FareDest.valid_of_checks {x : FareDest} (h : firstFailing 1 x.checks = none) : x.Valid := by
  rw [firstFailing_eq_none] at h
  simp only [FareDest.checks, List.forall_mem_cons, List.not_mem_nil, false_implies, implies_true, and_true,
    Bool.and_eq_true, decide_eq_true_eq] at h
  obtain ⟨hcode, hname, hbase, hvalidity⟩ := h
  exact ⟨hcode, hname, hbase, hvalidity⟩

theorem inRange_iff {lo hi n : Nat} : inRange lo hi n = true ↔ lo ≤ n ∧ n ≤ hi := by simp [inRange]

theorem capOk_iff {n : Nat} : capOk n = true ↔ CapValid n := by simp [capOk, CapValid, Nat.dvd_iff_mod_eq_zero]

/-- The windows are as many as the count byte says, each with the days its mask gives (R203). -/
theorem windowsAt_length (ps : List Byte) (i n : Nat) : (windowsAt ps i n).length = n := by
  induction n generalizing i with
  | zero => rfl
  | succ n ih => simp [windowsAt, ih]

theorem windowsAt_days (ps : List Byte) (i n : Nat) : ∀ w ∈ windowsAt ps i n, w.2.days = BitVec.ofNat 7 w.1 := by
  induction n generalizing i with
  | zero => simp [windowsAt]
  | succ n ih => simpa [windowsAt] using ih (i + 7)

/-- A mask of seven days with a day in it is not empty. -/
theorem ofNat_days_ne_zero {n : Nat} (h1 : 1 ≤ n) (h2 : n ≤ 127) : BitVec.ofNat 7 n ≠ 0 := fun h0 => by
  have : n % 128 = 0 := by simpa using congrArg BitVec.toNat h0
  omega

/-- Rules that pass the eight checks are valid (R116). -/
theorem FareRules.valid_of_checks {ps : List Byte} (h : firstFailing 1 (ruleChecks ps) = none) : (fareRulesFrom ps).Valid := by
  rw [firstFailing_eq_none] at h
  simp only [ruleChecks, List.forall_mem_cons, List.not_mem_nil, false_implies, implies_true, and_true, Bool.and_eq_true,
    Bool.or_eq_true, decide_eq_true_eq, beq_iff_eq, List.all_eq_true, inRange_iff, capOk_iff] at h
  obtain ⟨⟨hreturn, hday⟩, hclasses, hcount, hwindows, hpeak, hthreshold, hdiscount, ⟨hsingle, hret⟩, hcap⟩ := h
  have hfits : ∀ w ∈ (fareRulesFrom ps).windows,
      w.days ≠ 0 ∧ w.start ≤ 86399 ∧ 1 ≤ w.stop ∧ w.stop ≤ 86400 ∧ w.start < w.stop := by
    intro w hw
    obtain ⟨v, hv, rfl⟩ := List.mem_map.1 hw
    have hfit := hwindows v hv
    simp only [windowFits, Bool.and_eq_true, decide_eq_true_eq] at hfit
    obtain ⟨⟨⟨⟨⟨hd1, hd2⟩, hstart⟩, hstop1⟩, hstop2⟩, hlt⟩ := hfit
    rw [windowsAt_days _ _ _ v hv]
    exact ⟨ofNat_days_ne_zero hd1 hd2, hstart, hstop1, hstop2, hlt⟩
  exact ⟨⟨hreturn.1, hreturn.2, hday⟩, hclasses, ⟨by simpa [fareRulesFrom, windowsAt_length] using hcount, hfits⟩, hpeak,
    ⟨hthreshold, hdiscount⟩, hsingle, hret, hcap⟩

namespace FareBank

theorem cleared_lawful : FareBank.cleared.Lawful :=
  ⟨by decide, by simp [cleared], by simp [cleared], by simp [cleared], by simp [cleared], fun _ => rfl, by simp [cleared]⟩

/-- A fare bank in which a load has begun is lawful (R114). -/
theorem begun_lawful {id : Nat} (h1 : 1 ≤ id) (h2 : id ≤ 65535) : (FareBank.begun id).Lawful :=
  ⟨by simp [begun], by simp [begun], by simp [begun], by simp [begun], by simp [begun], by simp [begun],
    fun _ => ⟨id, rfl, h1, h2⟩⟩

/-- No record of the code is stored. -/
theorem find?_isSome_eq_false {b : FareBank} {k : Nat} : (b.find? k).isSome = false ↔ ∀ x ∈ b.dests, x.code ≠ k := by
  simp [find?]

/-- A valid record more, under a code that is not stored, keeps the law of a LOADING bank (R115). -/
theorem addDest_lawful {b : FareBank} (h : b.Lawful) (hload : b.state = .loading) {x : FareDest} (hx : x.Valid)
    (hroom : b.dests.length < 40) (hnew : ∀ y ∈ b.dests, y.code ≠ x.code) : (b.addDest x).Lawful where
  dests := by simp only [addDest, insertBy_length]; omega
  valid := fun y hy => by
    rcases mem_insertBy.1 hy with rfl | hy
    · exact hx
    · exact h.valid y hy
  ascending := insertBy_ascending FareDest.code h.ascending hnew
  rules := h.rules
  ready := by simp [addDest, hload]
  empty := by simp [addDest, hload]
  id := h.id

/-- Valid rules in place of any others keep the law of a LOADING bank (R116). -/
theorem withRules_lawful {b : FareBank} (h : b.Lawful) (hload : b.state = .loading) {r : FareRules} (hr : r.Valid) :
    ({ b with rules := some r } : FareBank).Lawful :=
  ⟨h.dests, h.valid, h.ascending, fun _ he => Option.some_inj.1 he ▸ hr, fun _ => rfl, by simp [hload], h.id⟩

/-- A lawful bank that is not EMPTY may take any state but EMPTY, and READY where it holds rules. -/
theorem withState_lawful {b : FareBank} (h : b.Lawful) (hb : b.state ≠ .empty) {x : BankState} (hx : x ≠ .empty)
    (hr : x = .ready → b.rules.isSome) : ({ b with state := x } : FareBank).Lawful :=
  ⟨h.dests, h.valid, h.ascending, h.rules, hr, fun he => absurd he hx, fun _ => h.id hb⟩

/-- A close keeps the law (R117). -/
theorem closed_lawful {b : FareBank} (h : b.Lawful) (hload : b.state = .loading) (n : Nat) :
    ({ b with state := b.closeState n } : FareBank).Lawful := by
  refine withState_lawful h (by simp [hload]) ?_ fun hr => ?_
  · rw [closeState_eq]; split <;> simp
  · rw [closeState_eq] at hr
    split at hr
    · next hall => exact Option.isSome_iff_ne_none.2 hall.2
    · simp at hr

/-- A start keeps the law: a bank found LOADING becomes BROKEN (R113). -/
theorem afterStart_lawful {b : FareBank} (h : b.Lawful) : ({ b with state := b.state.afterStart } : FareBank).Lawful := by
  unfold BankState.afterStart
  split
  · next hload => exact withState_lawful h (by simp [hload]) (by simp) (by simp)
  · exact h

end FareBank

/-! ## The stores (R4, R13, R113, R118) -/

theorem TimetableStore.staged_lawful {tt : TimetableStore} (h : tt.Lawful) {b : TimetableBank} (hb : b.Lawful) :
    ({ tt with staged := b } : TimetableStore).Lawful := ⟨h.active, hb, h.inUse⟩

theorem FareStore.staged_lawful {f : FareStore} (h : f.Lawful) {b : FareBank} (hb : b.Lawful) :
    ({ f with staged := b } : FareStore).Lawful := ⟨h.active, hb, h.inUse⟩

/-- An apply of the timetable item brings only a READY bank into use (R13). -/
theorem TimetableStore.apply_lawful {tt : TimetableStore} (h : tt.Lawful) (m : ApplyMode) : (tt.apply m).1.Lawful := by
  cases m with
  | none => exact h
  | replace =>
    by_cases hr : tt.staged.state = .ready
    · simpa [TimetableStore.apply, hr] using ⟨h.staged, TimetableBank.cleared_lawful, Or.inl hr⟩
    · simpa [TimetableStore.apply, hr] using h
  | swap =>
    by_cases hr : tt.staged.state = .ready
    · simpa [TimetableStore.apply, hr] using ⟨h.staged, h.active, Or.inl hr⟩
    · simpa [TimetableStore.apply, hr] using h

/-- An apply of the fare item brings only a READY bank into use (R118). -/
theorem FareStore.apply_lawful {f : FareStore} (h : f.Lawful) (m : ApplyMode) : (f.apply m).1.Lawful := by
  cases m with
  | none => exact h
  | replace =>
    by_cases hr : f.staged.state = .ready
    · simpa [FareStore.apply, hr] using ⟨h.staged, FareBank.cleared_lawful, Or.inl hr⟩
    · simpa [FareStore.apply, hr] using h
  | swap =>
    by_cases hr : f.staged.state = .ready
    · simpa [FareStore.apply, hr] using ⟨h.staged, h.active, Or.inl hr⟩
    · simpa [FareStore.apply, hr] using h

end Sys2Proof.Machine

/-! # The banks through every step -/

namespace Sys2Proof.Machine

/-- A row of a port command is the command period of the command it names (R189, R194). -/
theorem exec_portCommand {i : Instr} {c : PortCommand} (h : portCommand? i = some c) (s : State) :
    exec i s = s.run (c.cmd.period c.port c.params) := by
  cases i <;> cases h <;> rfl

/-- Both timetable banks and both fare banks are lawful. -/
structure Device.BanksLawful (d : Device) : Prop where
  timetable : d.tt.Lawful
  fares : d.fares.Lawful

namespace Device.BanksLawful

variable {d e : Device}

/-- What leaves the banks alone keeps their laws. -/
theorem of_eq (h : d.BanksLawful) (ht : e.tt = d.tt) (hf : e.fares = d.fares) : e.BanksLawful :=
  ⟨ht ▸ h.timetable, hf ▸ h.fares⟩

theorem guarded {f : Device → Device} (c : Bool) (h : d.BanksLawful) (hf : (f d).BanksLawful) : (d.when c f).BanksLawful := by
  unfold Device.when
  split
  · exact hf
  · exact h

theorem setStaged (h : d.BanksLawful) {b : TimetableBank} (hb : b.Lawful) : (d.setStaged b).BanksLawful :=
  ⟨TimetableStore.staged_lawful h.timetable hb, h.fares⟩

theorem setStagedFares (h : d.BanksLawful) {b : FareBank} (hb : b.Lawful) : (d.setStagedFares b).BanksLawful :=
  ⟨h.timetable, FareStore.staged_lawful h.fares hb⟩

/-! ## Staging -/

theorem stageBegin (h : d.BanksLawful) (ps : List Byte) : (runStageBegin ps d).1.BanksLawful := by
  have hid := u16At_lt ps 1
  unfold runStageBegin stageBeginTimetable stageBeginFares
  split
  · split
    · exact h
    · split
      · exact h
      · exact h.setStaged (TimetableBank.begun_lawful (by omega) (by omega))
  · split
    · split
      · exact h
      · split
        · exact h
        · exact h.setStagedFares (FareBank.begun_lawful (by omega) (by omega))
    · exact h

theorem stagePutDest (h : d.BanksLawful) (ps : List Byte) : (runStagePutDest ps d).1.BanksLawful := by
  unfold runStagePutDest
  split
  · exact h
  · next hload =>
    split
    · exact h
    · next htext =>
      split
      · exact h
      · next hroom =>
        exact h.setStaged (TimetableBank.addName_lawful h.timetable.staged (not_not.1 hload) (not_not.1 htext) (not_le.1 hroom))

theorem stagePutCall (h : d.BanksLawful) (ps : List Byte) : (runStagePutCall ps d).1.BanksLawful := by
  unfold runStagePutCall
  split
  · exact h
  · next hload =>
    split
    · exact h
    · next hpass =>
      have hvalid := RawCall.toCall_valid (RawCall.firstFailing_eq_none_iff.1 hpass)
      split
      · exact h
      · next hroom =>
        split
        · exact h
        · next hnew =>
          exact h.setStaged (TimetableBank.addCall_lawful h.timetable.staged (not_not.1 hload) hvalid (not_le.1 hroom) hnew)

theorem stagePutFare (h : d.BanksLawful) (ps : List Byte) : (runStagePutFare ps d).1.BanksLawful := by
  unfold runStagePutFare
  split
  · exact h
  · next hload =>
    split
    · exact h
    · next hpass =>
      split
      · exact h
      · next hnew =>
        have hnew := FareBank.find?_isSome_eq_false.1 (Bool.eq_false_of_not_eq_true hnew)
        split
        · exact h
        · next hroom =>
          exact h.setStagedFares
            (FareBank.addDest_lawful h.fares.staged (not_not.1 hload) (FareDest.valid_of_checks hpass) (not_le.1 hroom) hnew)

theorem stagePutRules (h : d.BanksLawful) (ps : List Byte) : (runStagePutRules ps d).1.BanksLawful := by
  unfold runStagePutRules
  split
  · exact h
  · next hload =>
    split
    · exact h
    · next hpass =>
      exact h.setStagedFares (FareBank.withRules_lawful h.fares.staged (not_not.1 hload) (FareRules.valid_of_checks hpass))

theorem stageClose (h : d.BanksLawful) (ps : List Byte) : (runStageClose ps d).1.BanksLawful := by
  unfold runStageClose stageCloseTimetable stageCloseFares
  split
  · split
    · exact h
    · next hload =>
      split
      · exact h
      · exact (h.setStaged (TimetableBank.closed_lawful h.timetable.staged (not_not.1 hload) (byteAt ps 1))).of_eq (by simp) (by simp)
  · split
    · split
      · exact h
      · next hload =>
        split
        · exact h
        · exact (h.setStagedFares (FareBank.closed_lawful h.fares.staged (not_not.1 hload) (byteAt ps 1))).of_eq (by simp) (by simp)
    · exact h

/-! ## Change-over and starts -/

theorem runApply (h : d.BanksLawful) (c : Trigger) : (d.runApply c).BanksLawful :=
  ⟨by simpa [Device.runApply] using TimetableStore.apply_lawful h.timetable _, by simpa [Device.runApply] using FareStore.apply_lawful h.fares _⟩

theorem applyNow (h : d.BanksLawful) (ps : List Byte) : (runApplyNow ps d).1.BanksLawful := by
  unfold runApplyNow
  split
  · exact h
  · exact h.runApply _

theorem delayExpiry (h : d.BanksLawful) : d.delayExpiry.BanksLawful := by
  unfold Device.delayExpiry
  split
  · split
    · exact h
    · split
      · exact h.of_eq (by simp) (by simp)
      · exact h.runApply _
  · exact h

theorem dayTick (h : d.BanksLawful) : d.dayTick.BanksLawful := by
  cases hd : d.clock.dueDay with
  | zero => unfold Device.dayTick; rw [if_pos hd]; exact h
  | succ n =>
    obtain ⟨e, he⟩ : ∃ e, e = { d with clock := { d.clock with dueDay := n }, sched := d.sched / 2 } := ⟨_, rfl⟩
    have hl : e.BanksLawful := h.of_eq (by rw [he]) (by rw [he])
    rcases Device.dayTick_cases hd he with hday | ⟨-, hday⟩ <;> rw [hday]
    · exact hl.of_eq (by simp) (by simp)
    · have hx : e.dayTrigger.delayExpiry.BanksLawful := (hl.of_eq (by simp) (by simp)).delayExpiry
      exact hx.of_eq (by simp) (by simp)

theorem startEnd (h : d.BanksLawful) (valid : Bool) : (d.startEnd valid).BanksLawful := by
  unfold Device.startEnd
  split
  · split
    · exact ⟨TimetableStore.staged_lawful h.timetable (TimetableBank.afterStart_lawful h.timetable.staged),
        FareStore.staged_lawful h.fares (FareBank.afterStart_lawful h.fares.staged)⟩
    · exact ⟨⟨TimetableBank.cleared_lawful, TimetableBank.cleared_lawful, .inr rfl⟩,
        ⟨FareBank.cleared_lawful, FareBank.cleared_lawful, .inr rfl⟩⟩
  · exact h
  · exact h

/-! ## Periods and steps -/

theorem setPort (h : d.BanksLawful) (p : PortId) (x : Port) : (d.setPort p x).BanksLawful := h.of_eq rfl rfl

theorem beginStart (h : d.BanksLawful) (c : StartCause) : (d.beginStart c).BanksLawful := h.of_eq rfl rfl

/-- The command period of any command keeps the laws: the staging commands and APPLY_NOW touch the banks, no other does. -/
theorem period (h : d.BanksLawful) (c : Cmd) (p : PortId) (ps : List Byte) : (c.period p ps d).BanksLawful := by
  refine Cmd.period_induction c (fun _ p x h => h.setPort p x) (fun _ h => h.of_eq (by simp) (by simp))
    (fun _ h => h.beginStart _) (fun e h => ?_) (fun qs _ h => h.of_eq (by simp) (by simp)) h
  have quiet : ∀ {f : Device}, f.tt = e.tt → f.fares = e.fares → f.BanksLawful := h.of_eq
  refine ⟨quiet ?_ ?_, quiet ?_ ?_, quiet ?_ ?_, quiet ?_ ?_, quiet ?_ ?_, quiet ?_ ?_, quiet ?_ ?_, quiet ?_ ?_, quiet ?_ ?_,
    quiet ?_ ?_, h.stageBegin ps, h.stagePutDest ps, h.stagePutCall ps, h.stagePutFare ps, h.stagePutRules ps,
    h.stageClose ps, quiet ?_ ?_, h.applyNow ps, quiet ?_ ?_, quiet ?_ ?_, quiet ?_ ?_, quiet ?_ ?_, quiet ?_ ?_, quiet ?_ ?_,
    quiet ?_ ?_, quiet ?_ ?_, quiet ?_ ?_, quiet ?_ ?_, quiet ?_ ?_, quiet ?_ ?_, quiet ?_ ?_, quiet ?_ ?_, quiet ?_ ?_,
    quiet ?_ ?_⟩
  all_goals simp

/-- A period given by its bytes keeps the laws (R188, R189). -/
theorem rawPeriod (h : d.BanksLawful) (p : PortId) (bytes : List Byte) : (d.rawPeriod p bytes).BanksLawful := by
  have herr : ∀ st : Status, (d.inIdle p bytes.length (Device.placeError p (bytes.getD 1 0) st)).BanksLawful := by
    intro st
    unfold Device.inIdle
    split
    · exact h
    · split <;> exact h.of_eq rfl rfl
  unfold Device.rawPeriod Device.rawCommand
  split
  · exact h
  · split
    · exact Device.readPeriod_induction (fun _ p x h => h.setPort p x) h
    · split
      · exact herr _
      · split
        · exact herr _
        · exact h.period _ _ _

/-- Every row keeps the laws. -/
theorem exec {s : State} (h : s.dev.BanksLawful) (i : Instr) :
    ∃ e : Device, Machine.exec i s = .next { s with dev := e } ∧ e.BanksLawful := by
  cases hc : portCommand? i with
  | some c => exact ⟨_, exec_portCommand hc s, h.period _ _ _⟩
  | none =>
    have line : ∀ f : LineFrame, (s.dev.lineEvent f).BanksLawful := fun f => h.of_eq (by simp) (by simp)
    have quiet : ∀ (c : Bool) (f : Device → Device), (f s.dev).tt = s.dev.tt → (f s.dev).fares = s.dev.fares →
        (s.dev.when c f).BanksLawful := fun c f ht hf => h.guarded c (h.of_eq ht hf)
    cases i
    case unknownCommand p bytes => exact ⟨_, rfl, h.rawPeriod p bytes⟩
    case readPeriod => exact ⟨_, rfl, Device.readPeriod_induction (fun _ p x h => h.setPort p x) h⟩
    case responsePlaced => exact ⟨_, rfl, Device.responsePlaced_induction (fun _ p x h => h.setPort p x) h⟩
    case powerOn =>
      refine ⟨_, rfl, ?_⟩
      unfold Device.powerOn
      split
      · exact h.beginStart _
      · exact h
    case resetInput =>
      refine ⟨_, rfl, ?_⟩
      unfold Device.resetInput
      split
      · exact h
      · exact h.beginStart _
    case startEnd valid => exact ⟨_, rfl, h.startEnd valid⟩
    case powerLoss => exact ⟨_, rfl, h.of_eq rfl rfl⟩
    case runFrame => exact ⟨_, rfl, line _⟩
    case cancel => exact ⟨_, rfl, line _⟩
    case reinstate => exact ⟨_, rfl, line _⟩
    case platform => exact ⟨_, rfl, line _⟩
    case serviceFrameTouchOnly => exact ⟨_, rfl, line _⟩
    case timemark => exact ⟨_, rfl, line _⟩
    case stopack => exact ⟨_, rfl, line _⟩
    case linenotice => exact ⟨_, rfl, line _⟩
    case lineFrameDiscarded => exact ⟨_, rfl, line _⟩
    case attemptStart => exact ⟨_, rfl, quiet _ Device.attemptStart (by simp) (by simp)⟩
    case attemptAcknowledged => exact ⟨_, rfl, quiet _ Device.attemptAcknowledged (by simp) (by simp)⟩
    case attemptNotAcknowledged => exact ⟨_, rfl, quiet _ Device.attemptNotAcknowledged (by simp) (by simp)⟩
    case secondAdvance => exact ⟨_, rfl, h.of_eq (Device.second_frame _).2.1 (by simp)⟩
    case minuteTick => exact ⟨_, rfl, quiet _ Device.minuteTick (by simp) (by simp)⟩
    case sweepTick => exact ⟨_, rfl, quiet _ Device.sweepTick (by simp) (by simp)⟩
    case dayBoundary => exact ⟨_, rfl, h.guarded _ h.dayTick⟩
    case syncAgeExpiry => exact ⟨_, rfl, quiet _ Device.syncExpiry (by simp) (by simp)⟩
    case candidateWindowClose => exact ⟨_, rfl, quiet _ Device.candidateClose (by simp) (by simp)⟩
    case delayExpiry => exact ⟨_, rfl, h.guarded _ h.delayExpiry⟩
    case quoteExpiry => exact ⟨_, rfl, quiet _ Device.quoteTick (by simp) (by simp)⟩
    case noticeExpiry => exact ⟨_, rfl, quiet _ Device.noticeTick (by simp) (by simp)⟩
    case buttonPress dir => exact ⟨_, rfl, quiet _ (Device.press dir) (by simp) (by simp)⟩
    case buttonRelease dir => exact ⟨_, rfl, quiet _ (Device.release dir) (by simp) (by simp)⟩
    case lampFlash dir => exact ⟨_, rfl, quiet _ (Device.lampFlash dir) (by simp) (by simp)⟩
    all_goals exact absurd hc (by simp [portCommand?])

end Device.BanksLawful

/-- Settles O17: a step is the front command or idling, and every row keeps the laws of the four banks. -/
theorem banksStayLawful : Obligations.BanksStayLawful := by
  intro s t ht hf hstep
  have h : s.dev.BanksLawful := ⟨ht, hf⟩
  suffices hl : t.dev.BanksLawful from ⟨hl.timetable, hl.fares⟩
  unfold step at hstep
  split at hstep
  · cases hstep; exact h
  · next c rest _ =>
    obtain ⟨e, he, hl⟩ := Device.BanksLawful.exec (s := { s with pending := rest }) h c
    rw [he] at hstep
    cases hstep
    exact hl

end Sys2Proof.Machine

/-! # Cold and warm starts -/

namespace Sys2Proof.Machine

/-! ## The end of a start (R195) -/

theorem Device.startEnd_cold {d : Device} {c : StartCause} (h : d.phase = .starting c) :
    d.startEnd false = { Device.cold c with sched := d.sched } := by
  simp [Device.startEnd, h]

theorem Device.startEnd_warm {d : Device} {c : StartCause} (h : d.phase = .starting c) : d.startEnd true = d.warm c := by
  simp [Device.startEnd, h]

/-- Settles O2: the part after a cold start is written out, and each block's values are read off it. -/
theorem coldStartGivesColdValues : Obligations.ColdStartGivesColdValues := by
  constructor
  · intro s c h
    refine ⟨{ s with dev := { Device.cold c with sched := s.dev.sched } }, ?_, rfl, rfl, ⟨rfl, rfl, rfl, rfl⟩, ⟨rfl, rfl⟩,
      ⟨rfl, rfl, rfl, rfl, rfl, rfl, rfl, rfl, rfl⟩, ⟨rfl, rfl⟩, fun dir => by cases dir <;> rfl, ⟨rfl, rfl, rfl⟩,
      ⟨rfl, rfl, rfl, rfl, rfl, rfl⟩, ⟨rfl, rfl, rfl, rfl, rfl⟩, ⟨rfl, rfl, rfl, rfl⟩, ⟨rfl, ?_, rfl, rfl, rfl⟩, rfl,
      ⟨rfl, rfl, rfl, rfl, rfl, rfl, rfl, rfl, rfl, rfl, rfl, rfl⟩, ⟨rfl, by show HaltSettings.cold.name = ascii "Halt"; decide, rfl, rfl, rfl, rfl, rfl, rfl⟩,
      fun p => by cases p <;> exact ⟨rfl, rfl, rfl⟩, ⟨rfl, rfl, rfl⟩, ⟨rfl, rfl, rfl⟩⟩
    · rw [← Device.startEnd_cold h]; rfl
    · intro x hx
      have hx : x = .cold := List.eq_of_mem_replicate hx
      subst hx
      exact ⟨rfl, rfl, rfl, rfl, rfl⟩
  · intro s h hsched
    have := Device.startEnd_cold h
    rw [hsched] at this
    show Host.Outcome.next { s with dev := s.dev.startEnd false } = _
    rw [this]
    rfl

/-! ## A warm start, block by block -/

/-- The clock is never SYNCED after a warm start (R20). -/
theorem ClockState.afterStart_ne_synced (x : ClockState) : x.afterStart ≠ .synced := by cases x <;> decide

/-- A notice judged afresh differs in its in-window flag at most (R167). -/
theorem Notice.judged_out (now : Moment) (n : Notice) :
    ({ n.judged now with inWindow := false } : Notice) = { n with inWindow := false } := rfl

/-- The sales states in which SN1 is up (R168). -/
theorem SalesState.stops_iff (x : SalesState) : x.stops = true ↔ x = .closed ∨ x = .suspended := by cases x <;> decide

/-- The Office port's flags of a warm start as its mask (R18, R146). -/
theorem Device.officeStartFlags_eq (d : Device) : d.officeStartFlags =
    (if d.tt.staged.state = .loading ∨ d.fares.staged.state = .loading then 8 else 0)
      ||| (if d.halt.uploadMark ≤ d.journal.records.length then 1 else 0) := by
  simp only [Device.officeStartFlags, flagBit, Flag.mask, Bool.or_eq_true, beq_iff_eq, decide_eq_true_eq]
  rfl

/-- The notices after a warm start are those before it, judged at the moment the clock shows. -/
theorem Device.warm_items (d : Device) (c : StartCause) :
    (d.warm c).notices.items = d.notices.items.map (Notice.judged d.moment) := rfl

/-- A screen after a warm start: its settings kept, its page the one composed at once (R151, R162). -/
theorem Device.warm_screens (d : Device) (c : StartCause) :
    (d.warm c).board.screens =
      d.board.screens.map (fun x => { x.warm with page := (d.warm c).composePage x.warm, seq := 1 }) := by
  show ((d.board.screens.map Screen.warm).map _) = _
  rw [List.map_map]
  rfl

/-- Settles O3: each block of the part after a warm start, most of them as `Device.warm` writes them out; the notices are judged,
the pages composed and the lists rebuilt in the part as the start leaves it. -/
theorem warmStartKeepsStored : Obligations.WarmStartKeepsStored := by
  intro s c h
  refine ⟨{ s with dev := s.dev.warm c }, ?_, rfl, rfl, ⟨rfl, rfl, rfl, rfl⟩, ⟨rfl, rfl⟩, ⟨rfl, rfl, rfl⟩,
    ⟨rfl, rfl, rfl, rfl, rfl, rfl, rfl, rfl, rfl⟩, ⟨rfl, rfl⟩, fun dir => by cases dir <;> rfl,
    ⟨rfl, rfl, rfl, rfl, rfl, rfl⟩, rfl, ⟨?_, ?_, ?_, rfl, ?_⟩, ⟨rfl, ?_, ?_, rfl, rfl⟩, rfl, rfl, rfl,
    fun p => by cases p <;> exact ⟨rfl, rfl, rfl, rfl⟩, ⟨rfl, rfl, s.dev.officeStartFlags_eq⟩⟩
  · rw [← Device.startEnd_warm h]; rfl
  · show List.map _ (s.dev.warm c).notices.items = _
    rw [Device.warm_items, List.map_map]
    exact List.map_congr_left fun n _ => Notice.judged_out _ n
  · intro n hn
    change n ∈ (s.dev.warm c).notices.items at hn
    rw [Device.warm_items] at hn
    obtain ⟨m, -, rfl⟩ := List.mem_map.1 hn
    rfl
  · exact SalesState.stops_iff _
  · exact bne_iff_ne.2 (ClockState.afterStart_ne_synced s.dev.clock.state)
  · show List.map _ (s.dev.warm c).board.screens = _
    rw [Device.warm_screens, List.map_map]
    rfl
  · intro x hx
    change x ∈ (s.dev.warm c).board.screens at hx
    rw [Device.warm_screens] at hx
    obtain ⟨y, -, rfl⟩ := List.mem_map.1 hx
    exact ⟨rfl, rfl, rfl⟩

end Sys2Proof.Machine

/-! # Flags, pages and orders left open -/

namespace Sys2Proof.Machine

/-! ## Orders left open (log 6) -/

/-- What every action of a row keeps, the row keeps. -/
theorem foldl_actions_induction {P : Device → Prop} {l : List (Device → Device)} {d : Device} (h0 : P d)
    (hf : ∀ f ∈ l, ∀ d, P d → P (f d)) : P (l.foldl (fun d f => f d) d) := by
  induction l generalizing d with
  | nil => exact h0
  | cons f fs ih =>
    exact ih (hf f List.mem_cons_self d h0) (fun g hg => hf g (List.mem_cons_of_mem f hg))

/-- Of the actions run in an open order one may be singled out: some of the others are run before it and the rest after it. -/
theorem Device.forAll_split {l : List (Device → Device)} (f : Device → Device) (others : List (Device → Device))
    (hl : l.Perm (f :: others)) (d : Device) :
    ∃ (before after : List (Device → Device)) (k : Nat), (before ++ after).Perm others ∧
      d.forAll l (fun f d => f d) =
        after.foldl (fun d f => f d) (f (before.foldl (fun d f => f d) { d with sched := k })) := by
  have hperm : (permute d.sched l).Perm (f :: others) := (permute_perm _ _).trans hl
  obtain ⟨before, after, hsplit⟩ := List.append_of_mem (hperm.mem_iff.2 List.mem_cons_self)
  refine ⟨before, after, d.sched / choices l.length, ?_, ?_⟩
  · rw [hsplit] at hperm
    exact (List.perm_middle.symm.trans hperm).cons_inv
  · unfold Device.forAll Device.shuffle
    dsimp only
    rw [hsplit, List.foldl_append, List.foldl_cons]

/-- The same, with what the other actions keep handed on past them. -/
theorem Device.forAll_around {l : List (Device → Device)} (f : Device → Device) (others : List (Device → Device))
    (hl : l.Perm (f :: others)) {P Q : Device → Prop} {d : Device} (hd : ∀ k, P { d with sched := k })
    (hbefore : ∀ g ∈ others, ∀ d, P d → P (g d)) (hf : ∀ d, P d → Q (f d)) (hafter : ∀ g ∈ others, ∀ d, Q d → Q (g d)) :
    Q (d.forAll l (fun f d => f d)) := by
  obtain ⟨before, after, k, hperm, he⟩ := Device.forAll_split f others hl d
  rw [he]
  have hmem : ∀ g, g ∈ before ∨ g ∈ after → g ∈ others := fun g hg => hperm.mem_iff.1 (List.mem_append.2 hg)
  exact foldl_actions_induction
    (hf _ (foldl_actions_induction (hd k) (fun g hg => hbefore g (hmem g (.inl hg)))))
    (fun g hg => hafter g (hmem g (.inr hg)))

/-! ## Sorting -/

/-- A sort is a reordering. -/
theorem sortBy_perm {α : Type} (b : α → α → Bool) (l : List α) : (sortBy b l).Perm l := by
  have key : ∀ (l acc : List α), (l.foldl (fun acc x => insertBy b x acc) acc).Perm (acc ++ l) := by
    intro l
    induction l with
    | nil => intro acc; simp
    | cons x xs ih =>
      intro acc
      exact (ih _).trans (((insertBy_perm b x acc).append_right xs).trans List.perm_middle.symm)
  exact key l []

/-- A sort puts a list in order. -/
theorem sortBy_ordered {α : Type} {b : α → α → Bool} (htrans : ∀ x y z, b x y = true → b y z = true → b x z = true)
    (hasymm : ∀ x y, b x y = true → b y x = false) (l : List α) : (sortBy b l).Pairwise (fun a c => b c a = false) := by
  have key : ∀ (l acc : List α), acc.Pairwise (fun a c => b c a = false) →
      (l.foldl (fun acc x => insertBy b x acc) acc).Pairwise (fun a c => b c a = false) := by
    intro l
    induction l with
    | nil => exact fun _ h => h
    | cons x xs ih => exact fun acc h => ih _ (insertBy_ordered htrans hasymm x h)
  exact key l [] List.Pairwise.nil

/-! ## Notify flags -/

/-- The notify sets after a flag is set. -/
theorem Device.setFlagIf_notify (d : Device) (c : Bool) (f : Flag) (p : PortId) :
    ((d.setFlagIf c f).port p).notify =
      if p = f.port ∧ c = true then (d.port p).notify ||| f.mask else (d.port p).notify := by
  unfold Device.setFlagIf
  by_cases hp : p = f.port
  · subst hp; rw [Ports.set_port_same]; simp
  · rw [Ports.set_port_other _ _ _ _ hp]; simp [hp]

/-- A flag that stands, stands after another is set (R198). -/
theorem Device.hasFlag_setFlagIf_of {d : Device} {f : Flag} (h : d.hasFlag f = true) (c : Bool) (g : Flag) :
    (d.setFlagIf c g).hasFlag f = true := by
  unfold Device.hasFlag at *
  rw [Device.setFlagIf_notify, bne_iff_ne]
  rw [bne_iff_ne] at h
  split
  · intro h0
    refine h (BitVec.eq_of_getLsbD_eq fun i hi => ?_)
    have hbit := congrArg (fun x => x.getLsbD i) h0
    simp only [BitVec.getLsbD_and, BitVec.getLsbD_or] at hbit ⊢
    cases hn : (d.port f.port).notify.getLsbD i <;> simp_all
  · exact h

/-- A flag stands after it is set (R198). -/
theorem Device.hasFlag_setFlag (d : Device) (f : Flag) : (d.setFlag f).hasFlag f = true := by
  unfold Device.hasFlag Device.setFlag
  rw [Device.setFlagIf_notify, if_pos ⟨rfl, rfl⟩, bne_iff_ne]
  intro h0
  have hself : ((d.port f.port).notify ||| f.mask) &&& f.mask = f.mask := by
    refine BitVec.eq_of_getLsbD_eq fun i hi => ?_
    rw [BitVec.getLsbD_and, BitVec.getLsbD_or]
    cases f.mask.getLsbD i <;> simp
  rw [hself] at h0
  cases f <;> exact absurd h0 (by decide)

/-- A flag that is not to be set changes nothing. -/
@[simp] theorem Device.setFlagIf_false (d : Device) (f : Flag) : d.setFlagIf false f = d := by
  cases f <;> rfl

/-- Every flag of `d` stands in `e`. -/
def Device.FlagsKept (d e : Device) : Prop := ∀ f, d.hasFlag f = true → e.hasFlag f = true

theorem Device.FlagsKept.of_ports {d e : Device} (h : e.ports = d.ports) : d.FlagsKept e := by
  intro f hf
  unfold Device.hasFlag at *
  rw [Device.port_of_ports h]
  exact hf

theorem Device.FlagsKept.trans {d e f : Device} (h1 : d.FlagsKept e) (h2 : e.FlagsKept f) : d.FlagsKept f :=
  fun x hx => h2 x (h1 x hx)

theorem Device.FlagsKept.setFlagIf (d : Device) (c : Bool) (f : Flag) : d.FlagsKept (d.setFlagIf c f) :=
  fun _ hx => Device.hasFlag_setFlagIf_of hx c f

/-! ## What a page shows -/

/-- The two parts show passengers the same: what a page reads of them agrees (R159 to R161, R169). -/
structure Device.SameView (d e : Device) : Prop where
  state : e.clock.state = d.clock.state
  second : e.clock.second = d.clock.second
  name : e.halt.name = d.halt.name
  notices : e.notices = d.notices
  groups : e.board.groups = d.board.groups
  lists : e.board.lists = d.board.lists
  rows : ∀ l ∈ d.board.lists, ∀ m ∈ l, e.memberRow m = d.memberRow m

/-- A member of a merged page is a member of a list. -/
theorem Device.mem_mergedMembers {d : Device} {s : Screen} {m : Member} (h : m ∈ d.mergedMembers s) :
    ∃ l ∈ d.board.lists, m ∈ l := by
  have hfold : ∀ (ms acc : List Member), m ∈ ms.foldl (fun acc m => if holds acc m.train then acc else acc ++ [m]) acc →
      m ∈ acc ∨ m ∈ ms := by
    intro ms
    induction ms with
    | nil => exact fun _ h => .inl h
    | cons x xs ih =>
      intro acc h
      rcases ih _ h with h | h
      · dsimp only at h
        split at h
        · exact .inl h
        · rcases List.mem_append.1 h with h | h
          · exact .inl h
          · exact .inr (List.mem_cons.2 (.inl (List.mem_singleton.1 h)))
      · exact .inr (List.mem_cons_of_mem x h)
  have h1 := (hfold _ _ h).resolve_left (by simp)
  have h2 := (sortBy_perm _ _).mem_iff.1 h1
  obtain ⟨g, -, hm⟩ := List.mem_flatMap.1 h2
  unfold Board.list at hm
  rw [List.getD_eq_getElem?_getD] at hm
  cases hl : d.board.lists[g]? with
  | none => simp [hl] at hm
  | some l => exact ⟨l, List.mem_of_getElem? hl, by simpa [hl] using hm⟩

/-- Parts that show the same compose the same pages. -/
theorem Device.SameView.composePage {d e : Device} (h : d.SameView e) (s : Screen) : e.composePage s = d.composePage s := by
  have hbear : e.bearingGroups s = d.bearingGroups s := by
    simp only [Device.bearingGroups, Board.groupMask, h.groups]
  have hmerge : e.mergedMembers s = d.mergedMembers s := by
    have hlist : e.board.list = d.board.list := funext fun g => by simp only [Board.list, h.lists]
    simp only [Device.mergedMembers, hbear, hlist]
  have hrows : (d.mergedMembers s).filterMap e.memberRow = (d.mergedMembers s).filterMap d.memberRow :=
    List.filterMap_congr fun m hm => by
      obtain ⟨l, hl, hml⟩ := Device.mem_mergedMembers hm
      exact h.rows l hl m hml
  simp only [Device.composePage, Device.rowsPart, hbear, hmerge, hrows, h.state, h.name, h.notices, Device.now, h.second]

/-- Every page is the one the state composes (R162). -/
def Device.Composed (d : Device) : Prop := ∀ x ∈ d.board.screens, x.page = d.composePage x

/-- From `d` to `e` screens keep their settings and their health, flags stand, and PAGE_CHANGED is set where a page
differs (R162). -/
structure Device.PageStep (d e : Device) : Prop where
  length : e.board.screens.length = d.board.screens.length
  screens : ∀ (k : Nat) (x y : Screen), d.board.screens[k]? = some x → e.board.screens[k]? = some y →
    y = { x with page := y.page, seq := y.seq } ∧ (y.page ≠ x.page → e.hasFlag .pageChanged = true)
  flags : d.FlagsKept e

namespace Device.PageStep

variable {d e f : Device}

/-- Screens left alone. -/
theorem of_screens (hs : e.board.screens = d.board.screens) (hf : d.FlagsKept e) : d.PageStep e where
  length := by rw [hs]
  screens := fun k x y hx hy => by
    rw [hs, hx] at hy
    obtain rfl := Option.some_inj.1 hy
    exact ⟨rfl, fun h => absurd rfl h⟩
  flags := hf

theorem trans (h1 : d.PageStep e) (h2 : e.PageStep f) : d.PageStep f where
  length := h2.length.trans h1.length
  screens := fun k x z hx hz => by
    obtain ⟨y, hy⟩ : ∃ y, e.board.screens[k]? = some y := by
      have := (List.getElem?_eq_some_iff.1 hx).1
      exact ⟨_, List.getElem?_eq_getElem (by rw [h1.length]; exact this)⟩
    obtain ⟨hxy, hflag1⟩ := h1.screens k x y hx hy
    obtain ⟨hyz, hflag2⟩ := h2.screens k y z hy hz
    refine ⟨by rw [hyz, hxy], fun hne => ?_⟩
    by_cases hp : y.page = x.page
    · exact hflag2 (by rw [hp]; exact hne)
    · exact h2.flags _ (hflag1 hp)
  flags := h1.flags.trans h2.flags

theorem recompose (d : Device) : d.PageStep d.recompose where
  length := by simp [Device.recompose]
  screens := fun k x y hx hy => by
    simp only [Device.recompose, Device.setFlagIf_frame, List.getElem?_map, hx, Option.map_some, Option.some_inj] at hy
    subst hy
    unfold Device.recomposed
    split
    · exact ⟨rfl, fun h => absurd rfl h⟩
    · next hne =>
      refine ⟨rfl, fun _ => ?_⟩
      have hany : d.board.screens.any (fun s => d.composePage s != s.page) = true :=
        List.any_eq_true.2 ⟨x, List.mem_of_getElem? hx, by simpa using hne⟩
      rw [Device.recompose, hany]
      exact Device.hasFlag_setFlag _ _
  flags := (Device.FlagsKept.of_ports (by rfl)).trans (Device.FlagsKept.setFlagIf _ _ _)

end Device.PageStep

/-- A recompose leaves every page as the state composes it (R162). -/
theorem Device.recompose_composed (d : Device) : d.recompose.Composed := by
  have hview : d.SameView d.recompose := ⟨by simp, by simp, by simp, by simp, by simp, by simp, fun _ _ m _ => by rfl⟩
  intro y hy
  simp only [Device.recompose, Device.setFlagIf_frame, List.mem_map] at hy
  obtain ⟨x, -, rfl⟩ := hy
  rw [hview.composePage]
  unfold Device.recomposed
  split
  · next he => exact he.symm
  · rfl

/-- Screens that moved by page steps and that stand composed follow the state (R162). -/
theorem Device.PageStep.follow {d e : Device} (h : d.PageStep e) (hc : e.Composed) : PagesFollow d e := by
  refine ⟨h.length, fun k x y hx hy => ?_⟩
  obtain ⟨hset, hflag⟩ := h.screens k x y hx hy
  refine ⟨?_, hflag⟩
  have hpage := hc y (List.mem_of_getElem? hy)
  have : e.composePage y = e.composePage x := by rw [hset]; rfl
  rw [this] at hpage
  rw [← hpage]
  exact hset

/-- From `d` to `e` pages that stand composed stay so, by page steps. -/
structure Device.PagesKept (d e : Device) : Prop where
  step : d.PageStep e
  composed : d.Composed → e.Composed

namespace Device.PagesKept

variable {d e f : Device}

theorem trans (h1 : d.PagesKept e) (h2 : e.PagesKept f) : d.PagesKept f :=
  ⟨h1.step.trans h2.step, fun h => h2.composed (h1.composed h)⟩

theorem refl (d : Device) : d.PagesKept d := ⟨.of_screens rfl (fun _ h => h), id⟩

theorem recompose (d : Device) : d.PagesKept d.recompose := ⟨.recompose d, fun _ => d.recompose_composed⟩

/-- Screens left alone, and what they show. -/
theorem of_view (hv : d.SameView e) (hs : e.board.screens = d.board.screens) (hf : d.FlagsKept e) : d.PagesKept e :=
  ⟨.of_screens hs hf, fun h x hx => by rw [hs] at hx; rw [hv.composePage]; exact h x hx⟩

/-- What no page reads may change, the ports apart. -/
theorem of_quiet (hc : e.clock = d.clock) (ht : e.tt = d.tt) (hh : e.halt = d.halt) (hn : e.notices = d.notices)
    (hb : e.board = d.board) (htab : e.table = d.table) (hp : d.FlagsKept e) : d.PagesKept e := by
  refine of_view ⟨by rw [hc], by rw [hc], by rw [hh], hn, by rw [hb], by rw [hb], fun _ _ m _ => ?_⟩ (by rw [hb]) hp
  simp only [Device.memberRow, Device.todayEntry?, Device.today, Device.now, Device.entryTime, Device.timeFrom, hc, ht, hh, htab]

theorem guarded {g : Device → Device} (c : Bool) (h : d.PagesKept (g d)) : d.PagesKept (d.when c g) := by
  unfold Device.when
  split
  · exact h
  · exact refl d

end Device.PagesKept

end Sys2Proof.Machine

/-! # The change-over -/

namespace Sys2Proof.Machine

/-! ## What the lists and the test of R178 read -/

/-- The two parts offer the same trains to the lists: what R154 reads of them agrees. -/
structure Device.SameSupply (d e : Device) : Prop where
  clock : e.clock = d.clock
  tt : e.tt = d.tt
  entries : e.table.entries = d.table.entries
  groups : e.board.groups = d.board.groups
  finished : e.board.finished = d.board.finished

theorem Device.SameSupply.candidates {d e : Device} (h : d.SameSupply e) : e.candidates = d.candidates := by
  have hentry : e.entryCandidate = d.entryCandidate := by
    unfold Device.entryCandidate Device.entryTime Device.timeFrom Device.now Device.today
    rw [h.clock]
  have hcall : e.callCandidate = d.callCandidate := by
    unfold Device.callCandidate Device.todayEntry? Device.now Device.today
    rw [h.clock, h.entries, h.finished]
  unfold Device.candidates Board.groupMask Device.today
  rw [hentry, hcall, h.clock, h.tt, h.entries, h.groups]

theorem Device.SameSupply.share {d e : Device} (h : d.SameSupply e) : e.board.share = d.board.share := by
  unfold Board.share Board.groupMask
  rw [h.groups]

theorem Device.SameSupply.rebuilt {d e : Device} (h : d.SameSupply e) : e.rebuilt = d.rebuilt := by
  unfold Device.rebuilt
  rw [h.candidates, h.share]

theorem Device.SameSupply.callFinished {d e : Device} (h : d.SameSupply e) : e.callFinished = d.callFinished := by
  unfold Device.callFinished Device.todayEntry? Device.now Device.today
  rw [h.clock, h.entries, h.finished]

theorem Device.SameSupply.lastCallHolds {d e : Device} (h : d.SameSupply e) : e.lastCallHolds = d.lastCallHolds := by
  unfold Device.lastCallHolds Device.today
  rw [h.callFinished, h.tt, h.clock]

theorem Device.SameSupply.lastCallDue_iff {d e : Device} (h : d.SameSupply e) (c : Changeover) :
    e.LastCallDue c ↔ d.LastCallDue c := by
  unfold Device.LastCallDue
  rw [h.callFinished, h.tt, h.clock]

/-! ## The test of R178 -/

theorem Device.lastCallHolds_iff (d : Device) :
    d.lastCallHolds = true ↔ ∀ h ∈ d.tt.dayList d.clock.date, h.call.kind = .pass ∨ d.callFinished h.call = true := by
  simp [Device.lastCallHolds, Device.today]

/-- What the test leaves of a unit that is not in TIMING: LAST_CALL_DONE raised where it is due, and all as it was otherwise. -/
theorem Device.lastCallTest_eq {d : Device} (h : d.co.unit ≠ .timing) :
    (d.LastCallDue d.co → d.lastCallTest = d.setCo (d.co.lastCallRaised d.clock.date)) ∧
      (¬ d.LastCallDue d.co → d.lastCallTest = d) := by
  constructor
  · rintro ⟨harmed, hlast, hdone, hall⟩
    have hholds := d.lastCallHolds_iff.2 hall
    unfold Device.lastCallTest
    rw [if_pos ⟨by simp [harmed], hlast, hholds, hdone⟩]
    simp [Changeover.trigger, harmed, hlast, Changeover.lastCallRaised, Device.today]
  · intro hnot
    unfold Device.lastCallTest
    rw [if_neg]
    rintro ⟨hunit, hlast, hholds, hdone⟩
    have harmed : d.co.unit = .armed := by cases hu : d.co.unit <;> simp_all
    exact hnot ⟨harmed, hlast, hdone, d.lastCallHolds_iff.1 hholds⟩

/-- The test reads the supply of the lists and the unit, and of the part it writes the unit alone. -/
theorem Device.SameSupply.lastCallTest_co {d e : Device} (h : d.SameSupply e) (hco : e.co = d.co) :
    e.lastCallTest.co = d.lastCallTest.co := by
  unfold Device.lastCallTest Device.today
  rw [apply_ite Device.co, apply_ite Device.co, h.lastCallHolds, hco, h.clock]
  rfl

/-! ## The sales state evaluated (R134, R168) -/

/-- SN1 put where it stands changes nothing; put elsewhere, the pages follow (R168, R169). -/
theorem Device.setSn1_cases (d : Device) (b : Bool) :
    (d.notices.sn1 = b ∧ d.setSn1 b = d) ∨
      (d.notices.sn1 ≠ b ∧ d.setSn1 b = ({ d with notices := { d.notices with sn1 := b } } : Device).recompose) := by
  by_cases h : d.notices.sn1 = b
  · subst h; exact .inl ⟨rfl, by simp [Device.setSn1, Device.when]⟩
  · exact .inr ⟨h, by simp [Device.setSn1, Device.when, h]⟩

/-- All that an evaluation of the sales state can do: nothing where it stands as its inputs give it, and otherwise the new state,
its flag, and SN1 with the pages where it moves (R134, R168). -/
theorem Device.evalSales_cases (d : Device) :
    d.evalSales = d ∨
      ∃ m : Device, m = ({ d with sale := { d.sale with state := d.salesStateNow } } : Device).setFlag .salesStateChanged ∧
        (d.evalSales = m ∨ (m.notices.sn1 ≠ d.salesStateNow.stops ∧
          d.evalSales = ({ m with notices := { m.notices with sn1 := d.salesStateNow.stops } } : Device).recompose)) := by
  by_cases h : d.sale.state = d.salesStateNow
  · left
    have : ({ d with sale := { d.sale with state := d.salesStateNow } } : Device) = d := by rw [← h]
    simp [Device.evalSales, Device.when, h, this]
  · right
    refine ⟨_, rfl, ?_⟩
    have he : d.evalSales = Device.setSn1 d.salesStateNow.stops
        (({ d with sale := { d.sale with state := d.salesStateNow } } : Device).setFlag .salesStateChanged) := by
      have hne : (d.sale.state != d.salesStateNow) = true := bne_iff_ne.2 h
      simp only [Device.evalSales, Device.when, hne, if_true]
      rfl
    rcases Device.setSn1_cases (({ d with sale := { d.sale with state := d.salesStateNow } } : Device).setFlag .salesStateChanged)
      d.salesStateNow.stops with ⟨-, hs⟩ | ⟨hne, hs⟩
    · exact .inl (he.trans hs)
    · exact .inr ⟨hne, he.trans hs⟩

/-- The sales state is read off the flag, the clock, the fares, the journal and the reserve. -/
theorem Device.salesStateNow_congr {d e : Device} (hs : e.sale.closedFlag = d.sale.closedFlag) (hc : e.clock = d.clock)
    (hf : e.fares = d.fares) (hj : e.journal = d.journal) (hh : e.halt = d.halt) : e.salesStateNow = d.salesStateNow := by
  simp only [Device.salesStateNow, hs, hc, hf, hj, hh]

theorem Device.evalSales_sale_state (d : Device) : d.evalSales.sale.state = d.salesStateNow := by
  rcases Device.evalSales_cases d with he | ⟨m, rfl, he | ⟨-, he⟩⟩
  · by_contra hne
    refine hne ?_
    rw [he]
    by_contra hne'
    have := congrArg (fun x : Device => x.sale.state) he
    simp [Device.evalSales, Device.when, hne'] at this
    exact hne' this.symm
  · rw [he]; simp
  · rw [he]; simp

theorem Device.evalSales_notices (d : Device) :
    d.evalSales.notices = { d.notices with sn1 := d.evalSales.notices.sn1 } := by
  rcases Device.evalSales_cases d with he | ⟨m, rfl, he | ⟨-, he⟩⟩ <;> rw [he]
  · simp
  · simp

/-- An evaluation keeps pages composed, and composes them where SN1 moves. -/
theorem Device.evalSales_pages (d : Device) :
    d.PagesKept d.evalSales ∧ (d.evalSales.notices.sn1 ≠ d.notices.sn1 → d.evalSales.Composed) ∧
      (d.evalSales.notices.sn1 = d.notices.sn1 → d.evalSales.board = d.board) := by
  have hflag : ∀ e : Device, e = ({ d with sale := { d.sale with state := d.salesStateNow } } : Device).setFlag .salesStateChanged →
      d.FlagsKept e := fun e he => he ▸ Device.FlagsKept.setFlagIf _ _ _
  rcases Device.evalSales_cases d with he | ⟨m, hm, he | ⟨hne, he⟩⟩ <;> rw [he]
  · exact ⟨.refl d, fun h => absurd rfl h, fun _ => rfl⟩
  · refine ⟨.of_quiet ?_ ?_ ?_ ?_ ?_ ?_ (hflag m hm), fun h => absurd ?_ h, fun _ => ?_⟩ <;> simp [hm]
  · refine ⟨⟨?_, fun _ => Device.recompose_composed _⟩, fun _ => Device.recompose_composed _, fun h => absurd ?_ hne⟩
    · refine Device.PageStep.trans (.of_screens ?_ ?_) (.recompose _)
      · simp [hm]
      · exact (hflag m hm).trans (.of_ports rfl)
    · simp only [Device.recompose_frame] at h
      rw [h, hm]; simp

/-! ## The results of an apply handed on (R178, R184, R185) -/

namespace Device

/-- The three receivers of an apply's results. -/
def applyReceivers (a b : Bool) : List (Device → Device) := [when a rebuildAll, when b evalSales, lastCallTest]

theorem rebuildAll_pages (d : Device) : d.PageStep d.rebuildAll ∧ d.rebuildAll.Composed :=
  ⟨PageStep.trans (e := d.setLists (groupIds.map d.rebuilt)) (.of_screens rfl (.of_ports rfl)) (.recompose _),
    recompose_composed _⟩

theorem rebuildAll_lists (d : Device) : d.rebuildAll.board.lists = groupIds.map d.rebuilt := by
  simp [rebuildAll]

theorem lastCallTest_pagesKept (d : Device) : d.PagesKept d.lastCallTest :=
  .of_quiet (by simp) (by simp) (by simp) (by simp) (by simp) (by simp) (.of_ports (by simp))

/-- None of the receivers changes what the lists are built from, the banks, or what the sales state is read off. -/
structure HandedOn (d e : Device) : Prop where
  supply : d.SameSupply e
  notices : e.notices = { d.notices with sn1 := e.notices.sn1 }
  salesNow : e.salesStateNow = d.salesStateNow

theorem HandedOn.refl (d : Device) : d.HandedOn d := ⟨⟨rfl, rfl, rfl, rfl, rfl⟩, rfl, rfl⟩

theorem HandedOn.trans {d e f : Device} (h1 : d.HandedOn e) (h2 : e.HandedOn f) : d.HandedOn f where
  supply := ⟨h2.supply.clock.trans h1.supply.clock, h2.supply.tt.trans h1.supply.tt, h2.supply.entries.trans h1.supply.entries,
    h2.supply.groups.trans h1.supply.groups, h2.supply.finished.trans h1.supply.finished⟩
  notices := by rw [h2.notices, h1.notices]
  salesNow := h2.salesNow.trans h1.salesNow

theorem handedOn_when {d : Device} {f : Device → Device} (c : Bool) (h : d.HandedOn (f d)) : d.HandedOn (d.when c f) := by
  unfold Device.when
  split
  · exact h
  · exact .refl d

theorem handedOn_of_mem {a b : Bool} {f : Device → Device} (hf : f ∈ applyReceivers a b) (d : Device) : d.HandedOn (f d) := by
  simp only [applyReceivers, List.mem_cons, List.not_mem_nil, or_false] at hf
  rcases hf with rfl | rfl | rfl
  · exact handedOn_when a ⟨⟨by simp, by simp, by simp, by simp, by simp⟩, by simp,
      salesStateNow_congr (by simp) (by simp) (by simp) (by simp) (by simp)⟩
  · exact handedOn_when b ⟨⟨by simp, by simp, by simp, by simp, by simp⟩, evalSales_notices d,
      salesStateNow_congr (by simp) (by simp) (by simp) (by simp) (by simp)⟩
  · exact ⟨⟨by simp, by simp, by simp, by simp, by simp⟩, by simp,
      salesStateNow_congr (by simp) (by simp) (by simp) (by simp) (by simp)⟩

theorem handedOn_forAll {a b : Bool} (d : Device) : d.HandedOn (d.applyHandedOn a b) :=
  forAll_induction (P := fun e => d.HandedOn e) (.refl d)
    (fun _ _ h => h.trans ⟨⟨rfl, rfl, rfl, rfl, rfl⟩, rfl, rfl⟩) (fun _ hf _ h => h.trans (handedOn_of_mem hf _))

theorem pageStep_of_mem {a b : Bool} {f : Device → Device} (hf : f ∈ applyReceivers a b) (d : Device) : d.PageStep (f d) := by
  simp only [applyReceivers, List.mem_cons, List.not_mem_nil, or_false] at hf
  rcases hf with rfl | rfl | rfl
  · unfold Device.when
    split
    · exact (rebuildAll_pages d).1
    · exact .of_screens rfl (fun _ h => h)
  · exact (PagesKept.guarded b (evalSales_pages d).1).step
  · exact (lastCallTest_pagesKept d).step

theorem pageStep_forAll {a b : Bool} (d : Device) : d.PageStep (d.applyHandedOn a b) :=
  forAll_induction (P := fun e => d.PageStep e) (.of_screens rfl (fun _ h => h))
    (fun _ _ h => h.trans (.of_screens rfl (.of_ports rfl))) (fun _ hf _ h => h.trans (pageStep_of_mem hf _))

/-- The lists after an apply is handed on: rebuilt where the timetable item was applied, kept where it was not (R156). -/
theorem applyHandedOn_lists (d : Device) (a b : Bool) :
    (d.applyHandedOn a b).board.lists = if a then groupIds.map d.rebuilt else d.board.lists := by
  refine forAll_around (when a rebuildAll) [when b evalSales, lastCallTest] (.refl _)
    (P := fun e => d.HandedOn e ∧ e.board.lists = d.board.lists)
    (Q := fun e => e.board.lists = if a then groupIds.map d.rebuilt else d.board.lists)
    (fun _ => ⟨⟨⟨rfl, rfl, rfl, rfl, rfl⟩, rfl, rfl⟩, rfl⟩) (fun f hf e he => ?_) (fun e he => ?_) (fun f hf e he => ?_)
  · refine ⟨he.1.trans (handedOn_of_mem (a := a) (b := b) (List.mem_cons_of_mem _ hf) e), ?_⟩
    simp only [List.mem_cons, List.not_mem_nil, or_false] at hf
    rcases hf with rfl | rfl <;> simp [he.2]
  · cases a
    · simpa [Device.when] using he.2
    · simp [Device.when, rebuildAll_lists, he.1.supply.rebuilt]
  · simp only [List.mem_cons, List.not_mem_nil, or_false] at hf
    rcases hf with rfl | rfl <;> simp [he]

/-- The sales state after an apply is handed on: evaluated where the fare item was applied (R118). -/
theorem applyHandedOn_sales (d : Device) (a b : Bool) :
    (d.applyHandedOn a b).sale.state = if b then d.salesStateNow else d.sale.state := by
  have hother : ∀ f ∈ [when a rebuildAll, lastCallTest], ∀ e : Device, (f e).sale = e.sale := by
    intro f hf e
    simp only [List.mem_cons, List.not_mem_nil, or_false] at hf
    rcases hf with rfl | rfl <;> simp
  refine forAll_around (when b evalSales) [when a rebuildAll, lastCallTest] (List.Perm.swap _ _ _)
    (P := fun e => d.HandedOn e ∧ e.sale = d.sale)
    (Q := fun e => e.sale.state = if b then d.salesStateNow else d.sale.state)
    (fun _ => ⟨⟨⟨rfl, rfl, rfl, rfl, rfl⟩, rfl, rfl⟩, rfl⟩) (fun f hf e he => ?_) (fun e he => ?_)
    (fun f hf e he => by rw [hother f hf]; exact he)
  · refine ⟨he.1.trans (handedOn_of_mem (a := a) (b := b) ?_ e), (hother f hf e).trans he.2⟩
    simp only [List.mem_cons, List.not_mem_nil, or_false] at hf
    rcases hf with rfl | rfl <;> simp [applyReceivers]
  · cases b
    · simp [Device.when, he.2]
    · simp [Device.when, evalSales_sale_state, he.1.salesNow]

/-- The unit after an apply is handed on: the test of R178 as it falls out at once, wherever it comes among the receivers. -/
theorem applyHandedOn_co (d : Device) (a b : Bool) : (d.applyHandedOn a b).co = d.lastCallTest.co := by
  have hother : ∀ f ∈ [when a rebuildAll, when b evalSales], ∀ e : Device, (f e).co = e.co := by
    intro f hf e
    simp only [List.mem_cons, List.not_mem_nil, or_false] at hf
    rcases hf with rfl | rfl <;> simp
  refine forAll_around lastCallTest [when a rebuildAll, when b evalSales]
    ((List.Perm.cons _ (List.Perm.swap _ _ _)).trans (List.Perm.swap _ _ _))
    (P := fun e => d.HandedOn e ∧ e.co = d.co) (Q := fun e => e.co = d.lastCallTest.co)
    (fun _ => ⟨⟨⟨rfl, rfl, rfl, rfl, rfl⟩, rfl, rfl⟩, rfl⟩) (fun f hf e he => ?_)
    (fun e he => he.1.supply.lastCallTest_co he.2) (fun f hf e he => by rw [hother f hf]; exact he)
  refine ⟨he.1.trans (handedOn_of_mem (a := a) (b := b) ?_ e), (hother f hf e).trans he.2⟩
  simp only [List.mem_cons, List.not_mem_nil, or_false] at hf
  rcases hf with rfl | rfl <;> simp [applyReceivers]

/-- Where the timetable came into use or SN1 moved, every page stands composed after an apply is handed on (R162). -/
theorem applyHandedOn_composed (d : Device) (a b : Bool)
    (h : a = true ∨ (d.applyHandedOn a b).notices.sn1 ≠ d.notices.sn1) : (d.applyHandedOn a b).Composed := by
  have hkept : ∀ f ∈ applyReceivers a b, ∀ e : Device, e.Composed → (f e).Composed := by
    intro f hf e he
    simp only [applyReceivers, List.mem_cons, List.not_mem_nil, or_false] at hf
    rcases hf with rfl | rfl | rfl
    · unfold Device.when
      split
      · exact (rebuildAll_pages e).2
      · exact he
    · exact (PagesKept.guarded b (evalSales_pages e).1).composed he
    · exact (lastCallTest_pagesKept e).composed he
  rcases h with rfl | h
  · exact forAll_around (when true rebuildAll) [when b evalSales, lastCallTest] (.refl _) (P := fun _ => True)
      (fun _ => trivial) (fun _ _ _ _ => trivial) (fun e _ => (rebuildAll_pages e).2)
      (fun f hf e he => hkept f (List.mem_cons_of_mem _ hf) e he)
  · refine (forAll_induction (P := fun e => e.notices.sn1 = d.notices.sn1 ∨ e.Composed) (.inl rfl) (fun _ _ he => he)
      (fun f hf e he => ?_)).resolve_left h
    rcases he with he | he
    · simp only [List.mem_cons, List.not_mem_nil, or_false] at hf
      rcases hf with rfl | rfl | rfl
      · left; simp [he]
      · unfold Device.when
        split
        · by_cases hs : e.evalSales.notices.sn1 = e.notices.sn1
          · exact .inl (hs.trans he)
          · exact .inr ((evalSales_pages e).2.1 hs)
        · exact .inl he
      · left; simp [he]
    · exact .inr (hkept f hf e he)

/-- Where neither came about, the boards stay (R162). -/
theorem applyHandedOn_still (d : Device) (b : Bool) (h : (d.applyHandedOn false b).notices.sn1 = d.notices.sn1) :
    (d.applyHandedOn false b).board = d.board := by
  have hother : ∀ f ∈ [when false rebuildAll, lastCallTest], ∀ e : Device, (f e).board = e.board ∧ (f e).notices = e.notices := by
    intro f hf e
    simp only [List.mem_cons, List.not_mem_nil, or_false] at hf
    rcases hf with rfl | rfl <;> simp
  refine forAll_around (when b evalSales) [when false rebuildAll, lastCallTest] (List.Perm.swap _ _ _)
    (P := fun e => e.board = d.board ∧ e.notices = d.notices)
    (Q := fun e => e.notices.sn1 = d.notices.sn1 → e.board = d.board)
    (fun _ => ⟨rfl, rfl⟩) (fun f hf e he => ⟨(hother f hf e).1.trans he.1, (hother f hf e).2.trans he.2⟩) (fun e he hs => ?_)
    (fun f hf e he hs => ?_) h
  · cases b
    · exact he.1
    · simp only [Device.when, if_true] at hs ⊢
      rw [← he.2] at hs
      exact ((evalSales_pages e).2.2 hs).trans he.1
  · rw [(hother f hf e).2] at hs
    exact (hother f hf e).1.trans (he hs)

end Device

/-! ## An apply (R183 to R185) -/

/-- The result of the timetable item (R183). -/
theorem TimetableStore.apply_snd (tt : TimetableStore) (m : ApplyMode) : (tt.apply m).2 = itemReport m tt.staged.state := by
  cases m
  · rfl
  · simp only [TimetableStore.apply, itemReport]; split <;> rfl
  · simp only [TimetableStore.apply, itemReport]; split <;> rfl

/-- The result of the fare item (R183). -/
theorem FareStore.apply_snd (f : FareStore) (m : ApplyMode) : (f.apply m).2 = itemReport m f.staged.state := by
  cases m
  · rfl
  · simp only [FareStore.apply, itemReport]; split <;> rfl
  · simp only [FareStore.apply, itemReport]; split <;> rfl

/-- The unit that an apply writes is the one R184 gives. -/
theorem Changeover.afterApply_eq (d : Device) (cause : Trigger) :
    d.co.afterApply cause d.today d.now (itemReport d.co.ttMode d.tt.staged.state)
      (itemReport d.co.fareMode d.fares.staged.state) = d.coApplied cause := by
  have hswap : (d.co.ttMode == .swap || d.co.fareMode == .swap) = decide (d.co.ttMode = .swap ∨ d.co.fareMode = .swap) := by
    cases d.co.ttMode <;> cases d.co.fareMode <;> decide
  simp only [Changeover.afterApply, Device.coApplied, hswap, decide_eq_true_eq]
  rfl

/-- The part at an apply before its results are handed on: the banks and the unit written, and CHANGEOVER_DONE set (R184). -/
def Device.appliedAt (cause : Trigger) (d : Device) : Device :=
  ((d.setBanks (d.tt.apply d.co.ttMode).1 (d.fares.apply d.co.fareMode).1).setCo (d.coApplied cause)).setFlag .changeoverDone

theorem Device.runApply_eq (d : Device) (cause : Trigger) :
    d.runApply cause = (d.appliedAt cause).applyHandedOn (itemReport d.co.ttMode d.tt.staged.state == .applied)
      (itemReport d.co.fareMode d.fares.staged.state == .applied) := by
  unfold Device.runApply
  simp only [TimetableStore.apply_snd, FareStore.apply_snd, Changeover.afterApply_eq, Device.appliedAt]

theorem Device.coApplied_unit_ne_timing (d : Device) (cause : Trigger) : (d.coApplied cause).unit ≠ .timing := by
  simp only [Device.coApplied]; split <;> simp

/-- A sale unit that differs in the sales state at most. -/
theorem SaleUnit.eq_with_state {a b : SaleUnit} (h1 : a.slotA = b.slotA) (h2 : a.slotB = b.slotB)
    (h3 : a.nextQuote = b.nextQuote) (h4 : a.lastSale = b.lastSale) (h5 : a.closedFlag = b.closedFlag) :
    a = { b with state := a.state } := by
  cases a; cases b; simp_all

/-- A board that differs in its lists and its pages at most. -/
theorem Board.eq_with_lists {a b : Board} (h1 : a.groups = b.groups) (h2 : a.finished = b.finished) :
    a = { b with lists := a.lists, screens := a.screens } := by
  cases a; cases b; simp_all

/-- An apply of any cause does what R183 to R185 say, whatever order its results are handed on in. -/
theorem Device.runApply_applied (d : Device) (cause : Trigger) : Applied cause d (d.runApply cause) := by
  rw [Device.runApply_eq]
  generalize ha : (itemReport d.co.ttMode d.tt.staged.state == .applied) = a
  generalize hb : (itemReport d.co.fareMode d.fares.staged.state == .applied) = b
  have ha' : itemReport d.co.ttMode d.tt.staged.state = .applied ↔ a = true := by rw [← ha]; simp
  have hb' : itemReport d.co.fareMode d.fares.staged.state = .applied ↔ b = true := by rw [← hb]; simp
  have hon := Device.handedOn_forAll (a := a) (b := b) (d.appliedAt cause)
  have hsn : (d.appliedAt cause).notices = d.notices := by simp [Device.appliedAt]
  have hboard : (d.appliedAt cause).board = d.board := by simp [Device.appliedAt]
  have hco : ((d.appliedAt cause).applyHandedOn a b).co = (d.appliedAt cause).lastCallTest.co := Device.applyHandedOn_co _ a b
  have hunit := Device.lastCallTest_eq (d := d.appliedAt cause) (by simpa [Device.appliedAt] using d.coApplied_unit_ne_timing cause)
  have hcoa : (d.appliedAt cause).co = d.coApplied cause := by simp [Device.appliedAt]
  have hclock : (d.appliedAt cause).clock = d.clock := by simp [Device.appliedAt]
  rw [hcoa, hclock] at hunit
  have hflags : (d.appliedAt cause).FlagsKept ((d.appliedAt cause).applyHandedOn a b) := (Device.pageStep_forAll _).flags
  have hstep : d.PageStep ((d.appliedAt cause).applyHandedOn a b) :=
    Device.PageStep.trans (e := d.appliedAt cause)
      (.of_screens (by rw [hboard]) (Device.FlagsKept.trans (.of_ports rfl) (.setFlagIf _ _ _))) (Device.pageStep_forAll _)
  exact
    { frame := by
        have hn := hon.notices
        rw [hsn] at hn
        have hs := SaleUnit.eq_with_state (a := ((d.appliedAt cause).applyHandedOn a b).sale) (b := d.sale)
          (by simp [Device.appliedAt]) (by simp [Device.appliedAt]) (by simp [Device.appliedAt]) (by simp [Device.appliedAt])
          (by simp [Device.appliedAt])
        have hbd := Board.eq_with_lists (a := ((d.appliedAt cause).applyHandedOn a b).board) (b := d.board)
          (by simp [Device.appliedAt]) (by simp [Device.appliedAt])
        refine Device.ext ?_ ?_ rfl ?_ ?_ ?_ rfl hs ?_ hn hbd ?_ rfl ?_ rfl rfl <;> simp [Device.appliedAt]
      timetable := by
        simp only [Device.applyHandedOn_frame, Device.appliedAt, Device.setFlag_frame, Device.setCo_frame, Device.setBanks_tt]
        cases d.co.ttMode <;> simp only [TimetableStore.apply] <;> split <;> simp_all
      fares := by
        simp only [Device.applyHandedOn_frame, Device.appliedAt, Device.setFlag_frame, Device.setCo_frame, Device.setBanks_fares]
        cases d.co.fareMode <;> simp only [FareStore.apply] <;> split <;> simp_all
      lists := by
        rw [Device.applyHandedOn_lists, hon.supply.rebuilt, hboard]
        simp only [ha']
        rfl
      pages := fun h => hstep.follow (Device.applyHandedOn_composed _ a b (by rwa [ha', ← hsn] at h))
      still := fun h1 h2 => by
        rw [ne_eq, ha', Bool.not_eq_true] at h1
        subst h1
        rw [Device.applyHandedOn_still _ b (by rw [h2, hsn]), hboard]
      sales := by
        rw [Device.applyHandedOn_sales, hon.salesNow]
        simp only [hb']
        simp [Device.appliedAt]
      quiet := fun h => by
        rw [hon.supply.lastCallDue_iff] at h
        rw [hco, hunit.2 h, hcoa]
      raised := fun h => by
        rw [hon.supply.lastCallDue_iff] at h
        rw [hco, hunit.1 h]; rfl
      told := hflags _ (Device.hasFlag_setFlag _ _) }

/-! ## APPLY_NOW and the delay expiry (R181, R182) -/

/-- The bytes clocked out do not reach an apply. -/
theorem Applied.of_clockOut {d e : Device} {cause : Trigger} (z : List Byte)
    (h : Applied cause (d.clockOut .office z) e) : Applied cause d e where
  frame := h.frame
  timetable := h.timetable
  fares := h.fares
  lists := h.lists
  pages := h.pages
  still := h.still
  sales := h.sales
  quiet := h.quiet
  raised := h.raised
  told := h.told

/-- A response in hand leaves an apply as it was. -/
theorem Applied.hold {d e : Device} {cause : Trigger} (h : Applied cause d e) (r : Response) :
    Applied cause d (e.hold .office r) where
  frame := by rw [Device.ext_iff]; have := h.frame; rw [Device.ext_iff] at this; simp only [Device.hold_frame]; tauto
  timetable := h.timetable
  fares := h.fares
  lists := h.lists
  pages := h.pages
  still := h.still
  sales := h.sales
  quiet := h.quiet
  raised := h.raised
  told := h.told

/-- The notify sets aside, a response in hand is written over whatever the port had in hand. -/
theorem Device.hold_quiet {d e : Device} (n : Nat) (r : Response)
    (h : e.ports.quiet = (d.clockOut .office (List.replicate n 0)).ports.quiet) :
    (e.hold .office r).ports.quiet = (d.answeredPorts .office n r).quiet := by
  simp only [Ports.quiet, Device.clockOut, Device.setPort, Device.hold, Device.port, Ports.set, Device.answeredPorts,
    Ports.mk.injEq, Port.mk.injEq] at h ⊢
  tauto

/-- Settles O19: APPLY_NOW outside DISARMED is an apply with its response in hand. -/
theorem applyNowAppliesAtOnce : Obligations.ApplyNowAppliesAtOnce := by
  intro s h
  refine ⟨fun hu => ?_, fun hu => ?_⟩
  · exact State.run_commanded_office (rep := .refused .notArmed []) h (by simp) rfl rfl fun z => by
      simp [runApplyNow, hu]
  · have hrun := Device.commanded_of_takes (c := .applyNow) (ps := []) h (by simp) rfl rfl (runApplyNow [])
    have hbody : ∀ z, runApplyNow [] (s.dev.clockOut .office z) =
        ((s.dev.clockOut .office z).runApply .applyNow,
          .ok (resultData ((s.dev.clockOut .office z).runApply .applyNow).co.lastResult)) := fun z => by
      simp [runApplyNow, hu]
    have hat : s.dev.atCommand .office = s.dev := rfl
    rw [hat, hbody] at hrun
    have happ := Device.runApply_applied (s.dev.clockOut .office (List.replicate 3 0)) .applyNow
    have hres : ((s.dev.clockOut .office (List.replicate 3 0)).runApply .applyNow).co.lastResult =
        (s.dev.coApplied .applyNow).lastResult := by
      by_cases hdue : ((s.dev.clockOut .office (List.replicate 3 0)).runApply .applyNow).LastCallDue
          ((s.dev.clockOut .office (List.replicate 3 0)).coApplied .applyNow)
      · rw [happ.raised hdue]; rfl
      · rw [happ.quiet hdue]; rfl
    refine ⟨_, congrArg (fun e : Device => Host.Outcome.next ({ s with dev := e } : State)) hrun, (happ.of_clockOut _).hold _,
      rfl, ?_⟩
    rw [← hres]
    exact Device.hold_quiet 3 _ (by simp)

/-- Settles O20: the three outcomes of the expiry, by the timer and the skip count. -/
theorem delayExpirySkipsOrApplies : Obligations.DelayExpirySkipsOrApplies := by
  intro s k hphase hunit htimer
  have hexec : ∀ e : Device, s.dev.delayExpiry = e → exec .delayExpiry s = .next { s with dev := e } := by
    rintro e rfl
    show Host.Outcome.next { s with dev := s.dev.when s.dev.running Device.delayExpiry } = _
    simp [Device.when, Device.running, hphase]
  refine ⟨fun hlt => ?_, fun hle hskip => ?_, fun c hle hskip hc => ?_⟩
  · exact hexec s.dev (by simp [Device.delayExpiry, hunit, htimer, hlt])
  · have he : s.dev.delayExpiry = s.dev.runApply k.cause := by
      simp [Device.delayExpiry, hunit, htimer, Nat.not_lt.2 hle, hskip]
    refine ⟨_, hexec _ he, ⟨rfl, ?_⟩, Device.runApply_applied s.dev k.cause⟩
    simp
  · have he : s.dev.delayExpiry = (s.dev.setCo c).lastCallTest := by
      rw [hc]
      simp only [Device.delayExpiry, hunit, htimer, if_neg (Nat.not_lt.2 hle), if_pos hskip]
      rfl
    have hne : (s.dev.setCo c).co.unit ≠ .timing := by rw [hc]; simp
    have htest := Device.lastCallTest_eq hne
    refine ⟨fun hnot => hexec _ (he.trans (htest.2 hnot)), fun hdue => hexec _ (he.trans (htest.1 hdue))⟩

end Sys2Proof.Machine

/-! # Candidates and departure lists -/

namespace Sys2Proof.Machine

/-! ## The order of keys (R153) -/

theorem Member.before_iff {a b : Member} : a.before b = true ↔ a.Before b := by
  simp [Member.before, Member.Before]

theorem Member.before_trans (a b c : Member) (h1 : a.before b = true) (h2 : b.before c = true) : a.before c = true := by
  rw [Member.before_iff] at *
  unfold Member.Before at *
  omega

theorem Member.before_asymm (a b : Member) (h : a.before b = true) : b.before a = false := by
  rw [← Bool.not_eq_true, Member.before_iff] at *
  unfold Member.Before at *
  omega

/-- Two keys that neither comes before are one. -/
theorem Member.before_total (a b : Member) : a.Before b ∨ a = b ∨ b.Before a := by
  obtain ⟨ta, da⟩ := a
  obtain ⟨tb, db⟩ := b
  simp only [Member.Before, Member.mk.injEq]
  omega

/-! ## Who is a candidate (R154) -/

theorem dateDiff_self (x : Date) : dateDiff x x = 0 := by simp [dateDiff]

/-- Whether an entry's state lets it be listed (R154). -/
theorem Entry.listable_iff {n : Int} {e : Entry} {c : CallRec} :
    e.listable n c = true ↔ e.state = .expected ∨ e.state = .running ∨ e.state = .approaching ∨ e.state = .atHalt ∨
      (e.state = .cancelled ∧ n ≤ (c.schedDep : Int) + 300) := by
  unfold Entry.listable
  cases e.state <;> simp

theorem Device.entryCandidate_eq_some {d : Device} {mask : BitVec 4} {e : Entry} {m : Member} :
    d.entryCandidate mask e = some m ↔
      ∃ h, e.held = some h ∧ m = { train := e.train, schedDep := h.call.schedDep } ∧ e.date = d.clock.date ∧
        h.call.kind ≠ .pass ∧ covers mask h.call.platform = true ∧
        (e.state = .expected ∨ e.state = .running ∨ e.state = .approaching ∨ e.state = .atHalt ∨
          (e.state = .cancelled ∧ d.clock.second ≤ h.call.schedDep + 300)) := by
  unfold Device.entryCandidate
  cases hh : e.held with
  | none => simp
  | some h =>
    have hnow : e.date = d.clock.date → d.entryTime e = (d.clock.second : Int) := fun hd => by
      simp [Device.entryTime, Device.timeFrom, Device.today, Device.now, hd, dateDiff_self]
    have hsec : ((d.clock.second : Int) ≤ (h.call.schedDep : Int) + 300) ↔ d.clock.second ≤ h.call.schedDep + 300 := by omega
    constructor
    · intro hs
      dsimp only at hs
      split at hs
      · next hc =>
        obtain ⟨hdate, hkind, hcov, hlist⟩ := hc
        rw [hnow hdate, Entry.listable_iff, hsec] at hlist
        exact ⟨h, rfl, (Option.some_inj.1 hs).symm, hdate, hkind, hcov, hlist⟩
      · simp at hs
    · rintro ⟨h', he, rfl, hdate, hkind, hcov, hlist⟩
      obtain rfl := Option.some_inj.1 he
      rw [← hsec, ← Entry.listable_iff, ← hnow hdate] at hlist
      exact if_pos ⟨hdate, hkind, hcov, hlist⟩

theorem Device.todayEntry?_eq_none {d : Device} {t : Nat} :
    d.todayEntry? t = none ↔ ∀ e ∈ d.table.entries, e.train = t → e.date ≠ d.clock.date := by
  simp [Device.todayEntry?, Device.today]

theorem Device.callCandidate_eq_some {d : Device} {mask : BitVec 4} {h : HeldCall} {m : Member} :
    d.callCandidate mask h = some m ↔
      m = { train := h.call.train, schedDep := h.call.schedDep } ∧ h.call.kind ≠ .pass ∧
        covers mask h.call.platform = true ∧ d.clock.second ≤ h.call.schedDep + 300 ∧
        (∀ e ∈ d.table.entries, e.train = h.call.train → e.date ≠ d.clock.date) ∧ h.call.train ∉ d.board.finished := by
  rw [← Device.todayEntry?_eq_none, ← Option.isNone_iff_eq_none]
  unfold Device.callCandidate Device.now
  constructor
  · intro hs
    split at hs
    · next hc => exact ⟨(Option.some_inj.1 hs).symm, hc⟩
    · simp at hs
  · rintro ⟨rfl, hc⟩
    exact if_pos hc

/-- The sorted candidates are the candidates of R154. -/
theorem Device.mem_candidates {d : Device} {g : Nat} {m : Member} : m ∈ d.candidates g ↔ d.Candidate g m := by
  unfold Device.candidates Device.Candidate
  rw [(sortBy_perm _ _).mem_iff, List.mem_append, List.mem_filterMap, List.mem_filterMap]
  simp only [Device.entryCandidate_eq_some, Device.callCandidate_eq_some]
  rfl

theorem Device.isCandidate_iff {d : Device} {g t : Nat} : d.isCandidate g t = true ↔ d.CandidateTrain g t := by
  simp [Device.isCandidate, Device.CandidateTrain, Device.mem_candidates]

/-! ## The day list (R10, R14, R15) -/

/-- No train twice among the entries: what the laws of the table say of its trains (R51). -/
def RunningTable.OneEach (tb : RunningTable) : Prop := (tb.entries.map Entry.train).Nodup

theorem RunningTable.Lawful.oneEach {tb : RunningTable} (h : tb.Lawful) : tb.OneEach :=
  h.ascending.imp fun hab => Nat.ne_of_lt hab

/-- The day list holds at most one call of any train: two calls of one train share no weekday (R10, R14). -/
theorem TimetableStore.dayList_nodup {tt : TimetableStore} (h : tt.Lawful) (x : Date) :
    ((tt.dayList x).map (fun h => h.call.train)).Nodup := by
  have hcomp : (tt.dayList x).map (fun h => h.call.train) = (tt.active.calls.filter (fun c => c.runsOn x)).map CallRec.train := by
    simp [TimetableStore.dayList, List.map_map, Function.comp_def]
  rw [hcomp, List.Nodup, List.pairwise_map]
  refine (h.active.single.filter (fun c => c.runsOn x)).imp_of_mem fun {a b} ha hb hab htrain => ?_
  have hra : a.days.getLsbD (weekday x) = true := by simpa [CallRec.runsOn] using (List.mem_filter.1 ha).2
  have hrb : b.days.getLsbD (weekday x) = true := by simpa [CallRec.runsOn] using (List.mem_filter.1 hb).2
  have := congrArg (fun v => v.getLsbD (weekday x)) (hab htrain)
  simp [hra, hrb] at this

/-- A lookup finds the one call of the train that runs on the date (R15). -/
theorem TimetableStore.lookup_eq_some {tt : TimetableStore} (h : tt.Lawful) {x : Date} {t : Nat} {y : HeldCall} :
    tt.lookup x t = some y ↔ y.call ∈ tt.active.calls ∧ y.call.train = t ∧ y.call.days.getLsbD (x.toNat % 7) = true ∧
      tt.active.names[y.call.dest]? = some y.name := by
  have hmem : y ∈ tt.dayList x ↔ y.call ∈ tt.active.calls ∧ y.call.days.getLsbD (x.toNat % 7) = true ∧
      tt.active.names[y.call.dest]? = some y.name := by
    have hname : ∀ c ∈ tt.active.calls, tt.active.names[c.dest]? = some (tt.active.nameAt c.dest) := by
      intro c hc
      rcases h.inUse with hr | he
      · have := h.active.named hr c hc
        simp [TimetableBank.nameAt, this]
      · rw [h.active.empty he] at hc; simp [TimetableBank.cleared] at hc
    simp only [TimetableStore.dayList, List.mem_map, List.mem_filter, CallRec.runsOn, weekday]
    constructor
    · rintro ⟨c, ⟨hc, hd⟩, rfl⟩
      exact ⟨hc, hd, hname c hc⟩
    · rintro ⟨hc, hd, hn⟩
      refine ⟨y.call, ⟨hc, hd⟩, ?_⟩
      rw [hname _ hc, Option.some_inj] at hn
      rw [hn]
  have hfind : tt.lookup x t = some y ↔ y ∈ tt.dayList x ∧ y.call.train = t := by
    unfold TimetableStore.lookup
    constructor
    · intro hf
      exact ⟨List.mem_of_find?_eq_some hf, by simpa using List.find?_some hf⟩
    · rintro ⟨hy, ht⟩
      cases hf : (tt.dayList x).find? (fun h => h.call.train == t) with
      | none => simp only [List.find?_eq_none] at hf; exact absurd (by simpa using ht) (hf y hy)
      | some z =>
        have hz := List.mem_of_find?_eq_some hf
        have htz : z.call.train = t := by simpa using List.find?_some hf
        rw [List.inj_on_of_nodup_map (TimetableStore.dayList_nodup h x) hz hy (htz.trans ht.symm)]
  rw [hfind, hmem]
  tauto

/-! ## The candidates of a list (R154) -/

/-- The candidates in the order of their keys. -/
theorem Device.candidates_ordered (d : Device) (g : Nat) : (d.candidates g).Pairwise (fun a c => c.before a = false) :=
  sortBy_ordered Member.before_trans Member.before_asymm _

/-- No train is a candidate twice. -/
theorem Device.candidates_nodup {d : Device} (ht : d.table.OneEach) (htt : d.tt.Lawful) (g : Nat) :
    ((d.candidates g).map Member.train).Nodup := by
  have hentries : ∀ {l : List Entry}, (l.map Entry.train).Nodup → ∀ mask,
      ((l.filterMap (d.entryCandidate mask)).map Member.train).Nodup := by
    intro l hl mask
    refine List.Nodup.sublist ?_ hl
    induction l with
    | nil => simp
    | cons e es ih =>
      have ih := ih (List.nodup_cons.1 hl).2
      cases he : d.entryCandidate mask e with
      | none => rw [List.filterMap_cons_none he]; exact ih.cons _
      | some m =>
        obtain ⟨_, _, rfl, -⟩ := Device.entryCandidate_eq_some.1 he
        rw [List.filterMap_cons_some he]
        exact ih.cons_cons _
  have hcalls : ∀ {l : List HeldCall}, (l.map (fun h => h.call.train)).Nodup → ∀ mask,
      ((l.filterMap (d.callCandidate mask)).map Member.train).Nodup := by
    intro l hl mask
    refine List.Nodup.sublist ?_ hl
    induction l with
    | nil => simp
    | cons h hs ih =>
      have ih := ih (List.nodup_cons.1 hl).2
      cases he : d.callCandidate mask h with
      | none => rw [List.filterMap_cons_none he]; exact ih.cons _
      | some m =>
        obtain ⟨rfl, -⟩ := Device.callCandidate_eq_some.1 he
        rw [List.filterMap_cons_some he]
        exact ih.cons_cons _
  unfold Device.candidates
  rw [((sortBy_perm _ _).map _).nodup_iff, List.map_append, List.nodup_append]
  refine ⟨hentries ht _, hcalls (TimetableStore.dayList_nodup htt _) _, ?_⟩
  intro a ha b hb hab
  obtain ⟨m, hm, rfl⟩ := List.mem_map.1 ha
  obtain ⟨m', hm', rfl⟩ := List.mem_map.1 hb
  obtain ⟨e, he, hem⟩ := List.mem_filterMap.1 hm
  obtain ⟨c, -, hcm⟩ := List.mem_filterMap.1 hm'
  obtain ⟨_, _, rfl, hdate, -⟩ := Device.entryCandidate_eq_some.1 hem
  obtain ⟨rfl, -, -, -, hnone, -⟩ := Device.callCandidate_eq_some.1 hcm
  exact hnone e he hab hdate

/-- The candidates in strict key order. -/
theorem Device.candidates_before {d : Device} (ht : d.table.OneEach) (htt : d.tt.Lawful) (g : Nat) :
    (d.candidates g).Pairwise Member.Before := by
  have hnodup := List.pairwise_map.1 (d.candidates_nodup ht htt g)
  refine ((d.candidates_ordered g).and hnodup).imp fun {a b} hab => ?_
  rcases Member.before_total a b with h | rfl | h
  · exact h
  · exact absurd rfl hab.2
  · exact absurd (Member.before_iff.2 h) (by simp [hab.1])

/-! ## Rebuilt lists (R153, R156) -/

/-- What a rebuilt list holds and what it leaves out. -/
theorem Device.rebuilt_spec {d : Device} (ht : d.table.OneEach) (htt : d.tt.Lawful) (g : Nat) :
    (d.rebuilt g).length ≤ d.board.share g ∧ (d.rebuilt g).Pairwise Member.Before ∧
      (∀ m ∈ d.rebuilt g, d.Candidate g m) ∧
      ∀ m, d.Candidate g m → m ∉ d.rebuilt g →
        (d.rebuilt g).length = d.board.share g ∧ ∀ x ∈ d.rebuilt g, x.Before m := by
  have hsort := d.candidates_before ht htt g
  unfold Device.rebuilt
  refine ⟨List.length_take_le _ _, hsort.sublist (List.take_sublist _ _),
    fun m hm => Device.mem_candidates.1 (List.mem_of_mem_take hm), fun m hm hout => ?_⟩
  rw [← Device.mem_candidates, ← List.take_append_drop (d.board.share g) (d.candidates g), List.mem_append] at hm
  have hdrop := hm.resolve_left hout
  rw [← List.take_append_drop (d.board.share g) (d.candidates g)] at hsort
  refine ⟨?_, fun x hx => (List.pairwise_append.1 hsort).2.2 x hx m hdrop⟩
  have : (d.candidates g).drop (d.board.share g) ≠ [] := List.ne_nil_of_mem hdrop
  rw [ne_eq, List.drop_eq_nil_iff, not_le] at this
  rw [List.length_take]
  omega

theorem Device.rebuilt_nodup {d : Device} (ht : d.table.OneEach) (htt : d.tt.Lawful) (g : Nat) :
    ((d.rebuilt g).map Member.train).Nodup :=
  (d.candidates_nodup ht htt g).sublist ((List.take_sublist _ _).map _)

/-- The split of the eight places (R153). -/
theorem Board.share_eq {b : Board} {g n k : Nat} {mask : BitVec 4} (hn : n = (b.groups.filter (fun m => m ≠ 0)).length)
    (hk : k = ((b.groups.take g).filter (fun m => m ≠ 0)).length) (hm : b.groups[g]? = some mask) :
    b.share g = if mask = 0 then 0 else if n = 1 then 8 else if n = 2 then 4
      else if n = 3 then (if k = 2 then 2 else 3) else 2 := by
  have hmask : b.groupMask g = mask := by simp [Board.groupMask, hm]
  have hbn : bearing b.groups = n := by rw [hn]; simp [bearing, bne, beq_eq_decide]
  have hbk : bearing (b.groups.take g) = k := by rw [hk]; simp [bearing, bne, beq_eq_decide]
  unfold Board.share
  rw [hmask, hbn, hbk]
  by_cases h0 : mask = 0
  · simp [h0]
  · have hlt : k < n := by
      have hg : g < b.groups.length := (List.getElem?_eq_some_iff.1 hm).1
      have hd : b.groups.drop g = mask :: b.groups.drop (g + 1) := by
        rw [List.drop_eq_getElem_cons hg, (List.getElem?_eq_some_iff.1 hm).2]
      have := congrArg (fun l => (l.filter (fun m : BitVec 4 => decide (m ≠ 0))).length) (List.take_append_drop g b.groups)
      rw [hd, List.filter_append, List.length_append, List.filter_cons_of_pos (by simpa using h0), List.length_cons, ← hk,
        ← hn] at this
      omega
    rw [if_neg h0, if_neg h0]
    match n, hlt with
    | 1, _ | 2, _ => simp
    | 3, hlt => have : k = 2 ↔ ¬ k < 2 := by omega
                by_cases hk2 : k < 2 <;> simp [hk2, this]
    | n + 4, _ => simp

/-! ## Leaving with the refill (R157) -/

theorem holds_iff {l : List Member} {t : Nat} : holds l t = true ↔ ∃ m ∈ l, m.train = t := by simp [holds]

/-- A train that a list does not hold leaves it as it is. -/
theorem leaveRefill_absent {cands l : List Member} {t : Nat} (h : ∀ m ∈ l, m.train ≠ t) : leaveRefill cands t l = l := by
  have : l.find? (fun m => m.train == t) = none := by simpa using h
  simp [leaveRefill, this]

/-- The place that a train leaves takes the candidate of lowest key above the refill key, or stays empty (R157). -/
theorem leaveRefill_refilled {d : Device} {g : Nat} {l : List Member} {gone : Member} (hl : (l.map Member.train).Nodup)
    (hg : gone ∈ l) : Refilled (d.Candidate g) gone l (leaveRefill (d.candidates g) gone.train l) := by
  have hself : ∀ m ∈ l, m.train = gone.train → m = gone := fun m hm ht => List.inj_on_of_nodup_map hl hm hg ht
  have hfind : l.find? (fun m => m.train == gone.train) = some gone := by
    cases hf : l.find? (fun m => m.train == gone.train) with
    | none => simp only [List.find?_eq_none] at hf; exact absurd (by simp) (hf gone hg)
    | some m => rw [hself m (List.mem_of_find?_eq_some hf) (by simpa using List.find?_some hf)]
  have hrest : l.filter (fun m => m.train != gone.train) = l.filter (fun m => decide (m ≠ gone)) :=
    List.filter_congr fun m hm => by
      have : m.train = gone.train ↔ m = gone := ⟨hself m hm, fun h => by rw [h]⟩
      rw [Bool.eq_iff_iff]
      simp [this]
  unfold leaveRefill
  rw [hfind, hrest]
  dsimp only
  refine ⟨_, _, rfl, rfl, ?_⟩
  generalize l.filter (fun m => decide (m ≠ gone)) = rest
  have htakes : ∀ c : Member, ((rest.getLast?.getD gone).before c && !holds rest c.train) = true ↔
      (rest.getLast?.getD gone).Before c ∧ ∀ m ∈ rest, m.train ≠ c.train := fun c => by
    simp [Member.before_iff, holds]
  cases hc : (d.candidates g).find? (fun c => (rest.getLast?.getD gone).before c && !holds rest c.train) with
  | none =>
    refine .inl ⟨rfl, fun c hcand hkey => ?_⟩
    have hno := List.find?_eq_none.1 hc c (Device.mem_candidates.2 hcand)
    rw [htakes] at hno
    simpa [hkey] using hno
  | some c =>
    obtain ⟨hsat, before, after, hsplit, hskip⟩ := List.find?_eq_some_iff_append.1 hc
    obtain ⟨hkey, hfree⟩ := (htakes c).1 hsat
    refine .inr ⟨c, rfl, Device.mem_candidates.1 (List.mem_of_find?_eq_some hc), hkey, hfree, fun x hx hxkey hxfree => ?_⟩
    rw [← Device.mem_candidates, hsplit, List.mem_append, List.mem_cons] at hx
    rcases hx with hx | rfl | hx
    · exact absurd ((htakes x).2 ⟨hxkey, hxfree⟩) (by simpa only [Bool.not_eq_true', Bool.not_eq_true] using hskip x hx)
    · exact .inl rfl
    · have hord := d.candidates_ordered g
      rw [hsplit] at hord
      have hnot := (List.pairwise_cons.1 (List.pairwise_append.1 hord).2.1).1 x hx
      rcases Member.before_total c x with h | h | h
      · exact .inr h
      · exact .inl h.symm
      · exact absurd (Member.before_iff.2 h) (by simp [hnot])

/-- A list keeps each train once as one leaves it. -/
theorem leaveRefill_nodup {cands l : List Member} {t : Nat} (hl : (l.map Member.train).Nodup) :
    ((leaveRefill cands t l).map Member.train).Nodup := by
  have hrest : ((l.filter (fun m => m.train != t)).map Member.train).Nodup := hl.sublist (List.filter_sublist.map _)
  unfold leaveRefill
  split
  · exact hl
  · dsimp only
    split
    · exact hrest
    · next c hc =>
      have hfree : ∀ m ∈ l.filter (fun m => m.train != t), m.train ≠ c.train := by
        have := List.find?_some hc
        rw [Bool.and_eq_true, Bool.not_eq_true', ← Bool.not_eq_true, holds_iff] at this
        exact fun m hm ht => this.2 ⟨m, hm, ht⟩
      rw [List.map_append, List.nodup_append]
      refine ⟨hrest, by simp, fun a ha b hb hab => ?_⟩
      obtain ⟨m, hm, rfl⟩ := List.mem_map.1 ha
      exact hfree m hm (by simpa using hab.trans (by simpa using hb))

end Sys2Proof.Machine

/-! # Entry notices: the receivers beside the board -/

namespace Sys2Proof.Machine

/-! ## The entry of a train (R52) -/

theorem Device.mem_of_entry? {d : Device} {t : Nat} {e : Entry} (h : d.entry? t = some e) : e ∈ d.table.entries :=
  List.mem_of_find?_eq_some h

theorem Device.train_of_entry? {d : Device} {t : Nat} {e : Entry} (h : d.entry? t = some e) : e.train = t :=
  beq_iff_eq.1 (List.find?_some (p := fun x : Entry => x.train == t) h)

theorem Device.entry?_eq_none {d : Device} {t : Nat} : d.entry? t = none ↔ ∀ e ∈ d.table.entries, e.train ≠ t := by
  simp [Device.entry?]

/-- No train has two entries: the one found is the only one (R51). -/
theorem RunningTable.OneEach.entry?_eq_some {d : Device} (ht : d.table.OneEach) {t : Nat} {e : Entry} :
    d.entry? t = some e ↔ e ∈ d.table.entries ∧ e.train = t := by
  refine ⟨fun h => ⟨Device.mem_of_entry? h, Device.train_of_entry? h⟩, fun ⟨he, het⟩ => ?_⟩
  cases hf : d.entry? t with
  | none => exact absurd het (Device.entry?_eq_none.1 hf e he)
  | some x =>
    rw [List.inj_on_of_nodup_map ht (Device.mem_of_entry? hf) he ((Device.train_of_entry? hf).trans het.symm)]

/-! ## What the lists read of an entry -/

/-- The entries are alike to the lists: of one train and date, with one call and one state. -/
structure Entry.Alike (x y : Entry) : Prop where
  train : y.train = x.train
  date : y.date = x.date
  held : y.held = x.held
  state : y.state = x.state
  beforeCancel : y.beforeCancel = x.beforeCancel

theorem Entry.Alike.refl (x : Entry) : x.Alike x := ⟨rfl, rfl, rfl, rfl, rfl⟩

theorem Entry.Alike.trans {x y z : Entry} (h1 : x.Alike y) (h2 : y.Alike z) : x.Alike z :=
  ⟨h2.train.trans h1.train, h2.date.trans h1.date, h2.held.trans h1.held, h2.state.trans h1.state,
    h2.beforeCancel.trans h1.beforeCancel⟩

/-- The forecast fields aside, entries of one core are alike. -/
theorem Entry.Alike.of_core {x y : Entry} (h : y.core = x.core) : x.Alike y :=
  have read : ∀ {α : Type} (f : Entry → α), f y.core = f x.core := fun f => congrArg f h
  ⟨read Entry.train, read Entry.date, read Entry.held, read Entry.state, read Entry.beforeCancel⟩

/-- A recompute writes the forecast fields alone (R74). -/
theorem Entry.recompute_core (dwell early : Nat) (n : Int) (tick : Bool) (e : Entry) :
    (e.recompute dwell early n tick).1.core = e.core := by
  have hstages : ∀ (e : Entry) c f, (e.recomputeStages dwell n c f).core = e.core := fun e c f => by
    unfold Entry.recomputeStages
    dsimp only
    split <;> rfl
  have hoverdue : ∀ (e : Entry) c, (e.overdueTest dwell n c).core = e.core := fun e c => by
    unfold Entry.overdueTest
    split
    · rfl
    · dsimp only
      split <;> rfl
  have hcue : ∀ (e : Entry) c, (e.delayCueTest c).core = e.core := fun e c => by
    unfold Entry.delayCueTest
    split
    · rfl
    · split <;> rfl
  unfold Entry.recompute
  split
  · rfl
  · split
    · rfl
    · dsimp only
      rw [hcue]
      split
      · rw [hoverdue, hstages]
      · exact hstages _ _ _

/-- Of the entries only that of train `t` may differ, and to the lists it is alike. -/
def AlikeBut (t : Nat) (xs ys : List Entry) : Prop := List.Forall₂ (fun x y => x.Alike y ∧ (x.train ≠ t → y = x)) xs ys

namespace AlikeBut

variable {t : Nat} {xs ys zs : List Entry}

theorem refl (t : Nat) (xs : List Entry) : AlikeBut t xs xs := List.forall₂_same.2 fun x _ => ⟨.refl x, fun _ => rfl⟩

theorem trans (h1 : AlikeBut t xs ys) (h2 : AlikeBut t ys zs) : AlikeBut t xs zs := by
  induction h1 generalizing zs with
  | nil => exact h2
  | cons hxy _ ih =>
    obtain ⟨z, zs', hyz, hrest, rfl⟩ := List.forall₂_cons_left_iff.1 h2
    refine .cons ⟨hxy.1.trans hyz.1, fun h => ?_⟩ (ih hrest)
    rw [hyz.2 (by rw [hxy.1.train]; exact h), hxy.2 h]

theorem of_update {f : Entry → Entry} (h : ∀ x ∈ xs, x.train = t → x.Alike (f x)) :
    AlikeBut t xs (xs.map (fun e => if e.train == t then f e else e)) := by
  refine List.forall₂_map_right_iff.2 (List.forall₂_same.2 fun x hx => ?_)
  by_cases ht : x.train = t
  · simpa [ht] using h x hx ht
  · simpa [ht] using Entry.Alike.refl x

theorem trains (h : AlikeBut t xs ys) : ys.map Entry.train = xs.map Entry.train := by
  induction h with
  | nil => rfl
  | cons hxy _ ih => rw [List.map_cons, List.map_cons, ih, hxy.1.train]

/-- The entry of another train is found as before. -/
theorem find?_other (h : AlikeBut t xs ys) {p : Entry → Bool} (hp : ∀ x, p x = true → x.train ≠ t) : ys.find? p = xs.find? p := by
  induction h with
  | nil => rfl
  | @cons x y _ _ hxy _ ih =>
    by_cases ht : x.train = t
    · have hx : p x = false := Bool.eq_false_iff.2 fun hpx => hp x hpx ht
      have hy : p y = false := Bool.eq_false_iff.2 fun hpy => hp y hpy (hxy.1.train.trans ht)
      rw [List.find?_cons, List.find?_cons, hx, hy, ih]
    · obtain rfl := hxy.2 ht
      rw [List.find?_cons, List.find?_cons, ih]

/-- A train's entry is found alike. -/
theorem find?_train (h : AlikeBut t xs ys) {m : Nat} {x : Entry} (hx : xs.find? (fun e => e.train == m) = some x) :
    ∃ y, ys.find? (fun e => e.train == m) = some y ∧ x.Alike y := by
  induction h with
  | nil => simp at hx
  | @cons x' y _ _ hxy _ ih =>
    rw [List.find?_cons] at hx ⊢
    rw [hxy.1.train]
    split at hx
    · obtain rfl := Option.some_inj.1 hx
      exact ⟨y, rfl, hxy.1⟩
    · exact ih hx

/-- What is read of each entry by fields that stay, stays. -/
theorem filterMap_eq {β : Type} (h : AlikeBut t xs ys) {f : Entry → Option β} (hf : ∀ x y, x.Alike y → f y = f x) :
    ys.filterMap f = xs.filterMap f := by
  induction h with
  | nil => rfl
  | cons hxy _ ih => rw [List.filterMap_cons, List.filterMap_cons, ih, hf _ _ hxy.1]

theorem find?_isNone (h : AlikeBut t xs ys) {p : Entry → Bool} (hp : ∀ x y, x.Alike y → p y = p x) :
    (ys.find? p).isNone = (xs.find? p).isNone := by
  induction h with
  | nil => rfl
  | @cons x y _ _ hxy _ ih =>
    rw [List.find?_cons, List.find?_cons, hp x y hxy.1]
    cases p x
    · exact ih
    · rfl

end AlikeBut

/-! ## What a receiver beside the board may do -/

theorem Board.lists_hold_iff {b : Board} {t : Nat} : b.lists_hold t = true ↔ b.Holds t := by
  simp [Board.lists_hold, Board.Holds, holds]

/-- From `d` to `e` a receiver beside the board has taken an event of train `t`: entries are alike, lists and settings stay, pages
follow, and where no list holds the train the board is as it was. -/
structure Device.Aside (t : Nat) (d e : Device) : Prop where
  frame : e = { d with
    table := { d.table with entries := e.table.entries }, board := { d.board with screens := e.board.screens }
    line := e.line, sru := e.sru, cues := e.cues, co := e.co, ports := e.ports, sched := e.sched }
  entries : AlikeBut t d.table.entries e.table.entries
  pages : d.PagesKept e
  still : ¬ d.board.Holds t → e.board = d.board

namespace Device.Aside

variable {t : Nat} {d e f : Device}

theorem clock (h : d.Aside t e) : e.clock = d.clock := by rw [h.frame]
theorem tt (h : d.Aside t e) : e.tt = d.tt := by rw [h.frame]
theorem lists (h : d.Aside t e) : e.board.lists = d.board.lists := by rw [h.frame]
theorem groups (h : d.Aside t e) : e.board.groups = d.board.groups := by rw [h.frame]
theorem finished (h : d.Aside t e) : e.board.finished = d.board.finished := by rw [h.frame]

theorem holds_iff (h : d.Aside t e) {n : Nat} : e.board.Holds n ↔ d.board.Holds n := by
  unfold Board.Holds
  rw [h.lists]

theorem oneEach (h : d.Aside t e) : d.table.OneEach → e.table.OneEach := by
  unfold RunningTable.OneEach
  rw [h.entries.trains]
  exact id

theorem trans (h1 : d.Aside t e) (h2 : e.Aside t f) : d.Aside t f where
  frame := h2.frame.trans (by rw [h1.frame])
  entries := h1.entries.trans h2.entries
  pages := h1.pages.trans h2.pages
  still := fun h => (h2.still (by rwa [h1.holds_iff])).trans (h1.still h)

/-- A change of what no list and no page reads. -/
theorem of_quiet (hf : e = { d with line := e.line, sru := e.sru, cues := e.cues, co := e.co, ports := e.ports, sched := e.sched })
    (hp : d.FlagsKept e) : d.Aside t e := by
  have hb : e.board = d.board := by rw [hf]
  have htab : e.table = d.table := by rw [hf]
  refine ⟨?_, by rw [htab]; exact .refl t _, .of_quiet (by rw [hf]) (by rw [hf]) (by rw [hf]) (by rw [hf]) hb htab hp, fun _ => hb⟩
  rw [htab, hb]
  exact hf

theorem refl (t : Nat) (d : Device) : d.Aside t d := .of_quiet rfl (fun _ h => h)

theorem guarded {g : Device → Device} (c : Bool) (h : d.Aside t (g d)) : d.Aside t (d.when c g) := by
  unfold Device.when
  split
  · exact h
  · exact refl t d

/-- A change of the train's entry, with the recompose that follows where a list holds the train (R162). -/
theorem recomposeFor (hf : e = { d with table := { d.table with entries := e.table.entries }, line := e.line, sru := e.sru
                                        cues := e.cues, co := e.co, ports := e.ports, sched := e.sched })
    (he : AlikeBut t d.table.entries e.table.entries) (hp : d.FlagsKept e) : d.Aside t (e.recomposeFor t) := by
  have hb : e.board = d.board := by rw [hf]
  unfold Device.recomposeFor Device.when
  by_cases hh : d.board.Holds t
  · rw [if_pos (by rw [hb, Board.lists_hold_iff]; exact hh)]
    refine ⟨?_, he, ⟨(PageStep.of_screens (by rw [hb]) hp).trans (.recompose e), fun _ => e.recompose_composed⟩, fun h => absurd hh h⟩
    unfold Device.recompose
    rw [hf]
    rfl
  · rw [if_neg (by rw [hb, Board.lists_hold_iff]; exact hh)]
    have hclock : e.clock = d.clock := by rw [hf]
    have htt : e.tt = d.tt := by rw [hf]
    have hhalt : e.halt = d.halt := by rw [hf]
    refine ⟨by rw [hb]; exact hf, he, .of_view ⟨by rw [hclock], by rw [hclock], by rw [hhalt], by rw [hf], by rw [hb], by rw [hb],
      fun l hl m hm => ?_⟩ (by rw [hb]) hp, fun _ => hb⟩
    have hne : m.train ≠ t := fun h => hh ⟨l, hl, m, hm, h⟩
    have htoday : e.todayEntry? m.train = d.todayEntry? m.train := by
      unfold Device.todayEntry? Device.today
      rw [hclock]
      exact he.find?_other fun x hx => by
        rw [Bool.and_eq_true, beq_iff_eq] at hx
        rw [hx.1]; exact hne
    simp only [Device.memberRow, htoday, Device.today, Device.now, Device.entryTime, Device.timeFrom, hclock, htt, hhalt]

/-! ### The acts of the receivers -/

theorem setSched (t : Nat) (d : Device) (k : Nat) : d.Aside t { d with sched := k } := of_quiet rfl (.of_ports rfl)

theorem setLine (t : Nat) (d : Device) (l : Line) : d.Aside t (d.setLine l) := of_quiet rfl (.of_ports rfl)

theorem refreshLamps (t n : Nat) (d : Device) : d.Aside t (d.refreshLamps n) := of_quiet rfl (.of_ports rfl)

theorem offerCue (t : Nat) (d : Device) (c : Cue) : d.Aside t (d.offerCue c) :=
  of_quiet rfl ((FlagsKept.of_ports (by rfl)).trans (.setFlagIf _ _ _))

theorem lastCallTest (t : Nat) (d : Device) : d.Aside t d.lastCallTest := by
  unfold Device.lastCallTest
  split
  · exact of_quiet rfl (.of_ports rfl)
  · exact refl t d

theorem selection (t : Nat) (d : Device) : d.Aside t d.selection := setLine t d _

theorem withdrawFrame (t n : Nat) (d : Device) : d.Aside t (d.withdrawFrame n) :=
  (setLine t d _).trans (guarded _ (selection t _))

theorem selectIfEligible (t n : Nat) (d : Device) : d.Aside t (d.selectIfEligible n) := guarded _ (selection t d)

/-- A recompute of the train's forecast (R76, R86, R87). -/
theorem recomputeTrain (ht : d.table.OneEach) (tick : Bool) (t : Nat) : d.Aside t (d.recomputeTrain tick t) := by
  unfold Device.recomputeTrain
  split
  · exact refl t d
  · next e he =>
    split
    · have honly : ∀ x ∈ d.table.entries, x.train = t → x = e := fun x hx hxt =>
        Option.some_inj.1 ((ht.entry?_eq_some.2 ⟨hx, hxt⟩).symm.trans he)
      have hcue : ∀ (c : Bool) (x : Device), ∃ cues ports, x.when c (Device.trainCue .delayed t e.platform 1) =
          { x with cues := cues, ports := ports } ∧ x.FlagsKept { x with cues := cues, ports := ports } := fun c x => by
        cases c
        · exact ⟨x.cues, x.ports, rfl, .of_ports rfl⟩
        · exact ⟨_, _, rfl, (FlagsKept.of_ports (by rfl)).trans (.setFlagIf _ _ _)⟩
      obtain ⟨cues, ports, hm, hflags⟩ := hcue (d.recomputeResult tick e).2 (d.updateEntry t fun _ => (d.recomputeResult tick e).1)
      rw [hm]
      have hf : d.FlagsKept { d.updateEntry t fun _ => (d.recomputeResult tick e).1 with cues := cues, ports := ports } :=
        (FlagsKept.of_ports (by rfl)).trans hflags
      by_cases hsame : (d.recomputeResult tick e).1 = e
      · have hkeep : d.table.entries.map (fun x => if x.train == t then e else x) = d.table.entries :=
          (List.map_congr_left fun x hx => by
            by_cases hxt : x.train = t
            · simp [honly x hx hxt]
            · simp [hxt]).trans (List.map_id _)
        have hup : d.updateEntry t (fun _ => e) = d := by
          unfold Device.updateEntry
          rw [hkeep]
        rw [hsame, hup] at hf ⊢
        rw [Device.when, if_neg (by simp)]
        exact of_quiet rfl hf
      · rw [Device.when, if_pos (by simpa using hsame)]
        refine Aside.recomposeFor rfl (AlikeBut.of_update fun x hx hxt => ?_) hf
        rw [honly x hx hxt]
        exact .of_core (Entry.recompute_core _ _ _ _ _)
    · exact refl t d

/-- A stop state given to the train's entry, with its stop notice (R93). -/
theorem setStop (t : Nat) (d : Device) (s : StopState) : d.Aside t (d.setStop t s) := by
  unfold Device.setStop
  split
  · exact refl t d
  · split
    · exact refl t d
    · next e _ _ =>
      have hup : d.FlagsKept (d.updateEntry t fun x => { x with stop := s }) := .of_ports rfl
      have hflag := hup.trans (.setFlagIf _ (e.saleWatch && !(e.stop.inProgress && s.inProgress)) .stopStateChanged)
      exact Aside.recomposeFor rfl (AlikeBut.of_update fun x _ _ => ⟨rfl, rfl, rfl, rfl, rfl⟩) (hflag.trans (.of_ports rfl))

/-! ### The receivers -/

theorem stopReport (d : Device) (n : EntryNotice) : d.Aside n.train (d.stopReport n) := by
  have hcutoff : ∀ e c, d.Aside n.train (d.cutoffAt n e c) := fun e c => by
    unfold Device.cutoffAt
    split
    · exact ((setStop _ _ _).trans (withdrawFrame _ _ _)).trans (guarded _ (offerCue _ _ _))
    · exact refl _ d
  unfold Device.stopReport
  split
  · exact refl _ d
  · exact ((hcutoff _ _).trans (guarded _ (setStop _ _ _))).trans (guarded _ (selectIfEligible _ _ _))

theorem stopUnitNotice (d : Device) (n : EntryNotice) : d.Aside n.train (d.stopUnitNotice n) := by
  unfold Device.stopUnitNotice
  refine Aside.trans ?_ (refreshLamps _ _ _)
  split
  · exact stopReport d n
  · exact (guarded _ (setStop _ _ _)).trans (withdrawFrame _ _ _)
  · exact guarded _ ((setStop _ _ _).trans (selectIfEligible _ _ _))
  · exact (of_quiet (e := { d with sru := { up := d.sru.up.forget n.train, down := d.sru.down.forget n.train } }) rfl
      (.of_ports rfl)).trans (withdrawFrame _ _ _)
  all_goals exact refl _ d

theorem forecastNotice (ht : d.table.OneEach) (n : EntryNotice) : d.Aside n.train (d.forecastNotice n) := by
  unfold Device.forecastNotice
  split
  · exact recomputeTrain ht _ _
  · exact recomputeTrain ht _ _
  · exact recomputeTrain ht _ _
  all_goals exact refl _ d

theorem cueNotice (d : Device) (n : EntryNotice) : d.Aside n.train (d.cueNotice n) := by
  unfold Device.cueNotice
  split
  · exact offerCue _ _ _
  · exact refl _ d

/-- Receivers beside the board, one after another. -/
theorem receivers {n : EntryNotice} (ht : d.table.OneEach) {l : List (Device → Device)}
    (hl : ∀ f ∈ l, f ∈ [Device.forecastNotice n, Device.stopUnitNotice n, Device.cueNotice n, Device.lastCallTest]) :
    d.Aside n.train (l.foldl (fun d f => f d) d) := by
  refine foldl_actions_induction (P := fun e => d.Aside n.train e) (refl _ d) fun f hf e he => he.trans ?_
  have hmem := hl f hf
  simp only [List.mem_cons, List.not_mem_nil, or_false] at hmem
  rcases hmem with rfl | rfl | rfl | rfl
  · exact forecastNotice (he.oneEach ht) n
  · exact stopUnitNotice e n
  · exact cueNotice e n
  · exact lastCallTest _ e

/-! ### What a receiver leaves to the lists -/

theorem candidates (h : d.Aside t e) : e.candidates = d.candidates := by
  have hmask : ∀ mask, e.table.entries.filterMap (e.entryCandidate mask) = d.table.entries.filterMap (d.entryCandidate mask) := by
    intro mask
    have hself : e.entryCandidate mask = d.entryCandidate mask := by
      unfold Device.entryCandidate Device.entryTime Device.timeFrom Device.now Device.today
      rw [h.clock]
    rw [hself]
    refine h.entries.filterMap_eq fun x y hxy => ?_
    unfold Device.entryCandidate Device.entryTime Entry.listable
    rw [hxy.held, hxy.date, hxy.state, hxy.train]
  have hcall : e.callCandidate = d.callCandidate := by
    have htoday : ∀ m, (e.todayEntry? m).isNone = (d.todayEntry? m).isNone := fun m => by
      unfold Device.todayEntry? Device.today
      rw [h.clock]
      exact h.entries.find?_isNone fun x y hxy => by rw [hxy.train, hxy.date]
    unfold Device.callCandidate Device.now
    simp only [htoday, h.clock, h.finished]
  unfold Device.candidates Board.groupMask Device.today
  simp only [hmask, hcall, h.clock, h.tt, h.groups]

theorem rebuilt (h : d.Aside t e) : e.rebuilt = d.rebuilt := by
  unfold Device.rebuilt Board.share Board.groupMask
  rw [h.candidates, h.groups]

end Device.Aside

end Sys2Proof.Machine

/-! # Entry notices: the board's part -/

namespace Sys2Proof.Machine

/-! ## A list at an entry notice (R157, R158) -/

/-- A notice after which its train may stand in no list: a removal, or a report of a train DEPARTED or PASSED (R158). -/
def EntryNotice.Goes (n : EntryNotice) : Prop :=
  n.cause = .removed ∨ (n.cause = .report ∧ (n.stateAfter = .departed ∨ n.stateAfter = .passed))

/-- Notices of every cause but PLATFORM are judged by whether the train may stand in the list (R158). -/
def EntryNotice.Judges (n : EntryNotice) : Prop := ∀ former new, n.cause ≠ .platform former new

theorem Device.listAtNotice_of_goes {d : Device} {n : EntryNotice} (h : n.Goes) (g : Nat) :
    d.listAtNotice n g = (leaveRefill (d.candidates g) n.train (d.board.list g), false) := by
  unfold Device.listAtNotice
  rcases h with hc | ⟨hc, hs⟩
  · simp only [hc]
  · simp only [hc, hs, and_self, if_true]

theorem Device.listAtNotice_of_stays {d : Device} {n : EntryNotice} (hj : n.Judges) (h : ¬ n.Goes) (g : Nat) :
    d.listAtNotice n g =
      if holds (d.board.list g) n.train then
        (if d.isCandidate g n.train then d.board.list g else leaveRefill (d.candidates g) n.train (d.board.list g), false)
      else if d.isCandidate g n.train then (d.rebuilt g, true)
      else (d.board.list g, false) := by
  unfold Device.listAtNotice
  unfold EntryNotice.Goes at h
  cases hc : n.cause with
  | removed => exact absurd (.inl hc) h
  | platform former new => exact absurd hc (hj former new)
  | report =>
    have hs : ¬ (n.stateAfter = .departed ∨ n.stateAfter = .passed) := fun hs => h (.inr ⟨hc, hs⟩)
    simp only [hs, and_false, if_false]
  | entered | cancel | reinstate => simp

/-- A train that must leave leaves the lists that hold it, with the refill, and the others stay (R157). -/
theorem leaveRefill_noticed {d : Device} {g n : Nat} {l : List Member} (hl : (l.map Member.train).Nodup) {stays : Prop}
    (hs : ¬ stays) : ListNoticed (d.Candidate g) stays n (d.rebuilt g) l (leaveRefill (d.candidates g) n l) where
  member := fun m hm hmn => ⟨fun h => absurd h hs, fun _ => by rw [← hmn]; exact leaveRefill_refilled hl hm⟩
  absent := fun ha => ⟨fun h => absurd h hs, fun _ => leaveRefill_absent ha⟩

/-- What one list becomes at an entry notice of any cause but PLATFORM (R158). -/
theorem Device.listAtNotice_noticed {d : Device} {n : EntryNotice} (hj : n.Judges) {g : Nat}
    (hl : ((d.board.list g).map Member.train).Nodup) :
    ListNoticed (d.Candidate g) (¬ n.Goes ∧ d.CandidateTrain g n.train) n.train (d.rebuilt g) (d.board.list g)
      (d.listAtNotice n g).1 := by
  by_cases hg : n.Goes
  · rw [Device.listAtNotice_of_goes hg]
    exact leaveRefill_noticed hl fun h => h.1 hg
  · rw [Device.listAtNotice_of_stays hj hg]
    simp only [holds_iff]
    by_cases hc : d.CandidateTrain g n.train
    · have hcand := Device.isCandidate_iff.2 hc
      by_cases hm : ∃ m ∈ d.board.list g, m.train = n.train
      · rw [if_pos hm, if_pos hcand]
        obtain ⟨m, hm, hmn⟩ := hm
        exact ⟨fun _ _ _ => ⟨fun _ => rfl, fun h => absurd ⟨hg, hc⟩ h⟩, fun ha => absurd hmn (ha m hm)⟩
      · rw [if_neg hm, if_pos hcand]
        exact ⟨fun m hml hmn => absurd ⟨m, hml, hmn⟩ hm, fun _ => ⟨fun _ => rfl, fun h => absurd ⟨hg, hc⟩ h⟩⟩
    · have hcand := mt Device.isCandidate_iff.1 hc
      by_cases hm : ∃ m ∈ d.board.list g, m.train = n.train
      · rw [if_pos hm, if_neg hcand]
        exact leaveRefill_noticed hl fun h => hc h.2
      · rw [if_neg hm, if_neg hcand]
        exact ⟨fun m hml hmn => absurd ⟨m, hml, hmn⟩ hm, fun _ => ⟨fun h => absurd h.2 hc, fun _ => rfl⟩⟩

/-- A list is rebuilt where its train may stand in it and does not (R158). -/
theorem Device.listAtNotice_rebuilt {d : Device} {n : EntryNotice} (hj : n.Judges) {g : Nat}
    (ha : ∀ m ∈ d.board.list g, m.train ≠ n.train) :
    (d.listAtNotice n g).2 = true ↔ ¬ n.Goes ∧ d.CandidateTrain g n.train := by
  by_cases hg : n.Goes
  · simp [Device.listAtNotice_of_goes hg, hg]
  · have hm : ¬ ∃ m ∈ d.board.list g, m.train = n.train := fun ⟨m, hm, hmn⟩ => ha m hm hmn
    rw [Device.listAtNotice_of_stays hj hg, ← Device.isCandidate_iff]
    simp only [holds_iff, if_neg hm]
    split <;> simp [*]

/-- At a PLATFORM notice the lists of both platforms are rebuilt, and no other (R158). -/
theorem Device.listAtNotice_platform {d : Device} {n : EntryNotice} {former new : Nat} (hc : n.cause = .platform former new)
    (g : Nat) :
    (d.board.CoversOne g former new → d.listAtNotice n g = (d.rebuilt g, true)) ∧
      (¬ d.board.CoversOne g former new → d.listAtNotice n g = (d.board.list g, false)) := by
  unfold Device.listAtNotice Board.CoversOne
  simp only [hc, Bool.or_eq_true]
  exact ⟨fun h => if_pos h, fun h => if_neg h⟩

/-- A list that does not hold the train and is not rebuilt stays. -/
theorem Device.listAtNotice_still {d : Device} {n : EntryNotice} {g : Nat} (ha : ∀ m ∈ d.board.list g, m.train ≠ n.train)
    (hr : (d.listAtNotice n g).2 = false) : (d.listAtNotice n g).1 = d.board.list g := by
  by_cases hj : n.Judges
  · by_cases hg : n.Goes
    · rw [Device.listAtNotice_of_goes hg]
      exact leaveRefill_absent ha
    · have hm : ¬ ∃ m ∈ d.board.list g, m.train = n.train := fun ⟨m, hm, hmn⟩ => ha m hm hmn
      rw [Device.listAtNotice_of_stays hj hg] at hr ⊢
      simp only [holds_iff, if_neg hm] at hr ⊢
      split at hr
      · cases hr
      · next hc => rw [if_neg hc]
  · unfold EntryNotice.Judges at hj
    push Not at hj
    obtain ⟨former, new, hc⟩ := hj
    obtain ⟨hcov, hnot⟩ := d.listAtNotice_platform hc g
    by_cases h : d.board.CoversOne g former new
    · rw [hcov h] at hr; cases hr
    · rw [hnot h]

/-! ## The board takes a notice (R155, R158, R162) -/

/-- The finished set is judged before the lists (R155). -/
def Device.finishedFirst (n : EntryNotice) (d : Device) : Device :=
  if n.cause = .removed then { d with board := { d.board with finished := d.finishedAfter n } } else d

/-- The lists that a notice leaves, judged on the part given. -/
def Device.noticedLists (n : EntryNotice) (d : Device) : List (List Member) := groupIds.map (fun g => (d.listAtNotice n g).1)

theorem Device.boardNotice_eq (n : EntryNotice) (d : Device) :
    d.boardNotice n = ((d.finishedFirst n).setLists ((d.finishedFirst n).noticedLists n)).when
      ((d.finishedFirst n).noticeRecomposes n) Device.recompose := rfl

/-- What judging the finished set writes. -/
theorem Device.finishedFirst_eq (n : EntryNotice) (d : Device) :
    d.finishedFirst n = { d with board := { d.board with
      finished := if n.cause = .removed then d.finishedAfter n else d.board.finished } } := by
  unfold Device.finishedFirst
  split <;> rfl

theorem Device.when_recompose_eq (c : Bool) (d : Device) :
    d.when c Device.recompose = { d with
      board := { d.board with screens := (d.when c Device.recompose).board.screens }
      ports := (d.when c Device.recompose).ports } := by
  cases c <;> rfl

/-- What the board writes at a notice, the pages aside. -/
theorem Device.boardNotice_writes (n : EntryNotice) (d : Device) :
    d.boardNotice n = { d with
      board := { d.board with
        finished := (d.finishedFirst n).board.finished
        lists := (d.finishedFirst n).noticedLists n
        screens := (d.boardNotice n).board.screens }
      ports := (d.boardNotice n).ports } := by
  have hframe := Device.when_recompose_eq ((d.finishedFirst n).noticeRecomposes n)
    ((d.finishedFirst n).setLists ((d.finishedFirst n).noticedLists n))
  rw [← Device.boardNotice_eq] at hframe
  refine hframe.trans ?_
  have hfirst := Device.finishedFirst_eq n d
  generalize d.finishedFirst n = c at *
  subst hfirst
  rfl

/-- The pages at a notice: recomposed where the rule says so, and as they were otherwise (R162). -/
theorem Device.boardNotice_pages (n : EntryNotice) (d : Device) :
    d.PageStep (d.boardNotice n) ∧ ((d.finishedFirst n).noticeRecomposes n = true → (d.boardNotice n).Composed) ∧
      ((d.finishedFirst n).noticeRecomposes n = false → (d.boardNotice n).board.screens = d.board.screens) := by
  rw [Device.boardNotice_eq, Device.finishedFirst_eq]
  generalize ({ d with board := { d.board with
    finished := if n.cause = .removed then d.finishedAfter n else d.board.finished } } : Device).noticeRecomposes n = c
  have hlists : ∀ ls fin, d.PageStep (({ d with board := { d.board with finished := fin } } : Device).setLists ls) := fun _ _ =>
    .of_screens rfl (.of_ports rfl)
  cases c
  · exact ⟨hlists _ _, nofun, fun _ => rfl⟩
  · exact ⟨(hlists _ _).trans (.recompose _), fun _ => Device.recompose_composed _, nofun⟩

theorem getD_map_groupIds {f : Nat → List Member} {g : Nat} (hg : g < 4) : (groupIds.map f).getD g [] = f g := by
  match g, hg with
  | 0, _ | 1, _ | 2, _ | 3, _ => rfl

theorem mem_groupIds {g : Nat} : g ∈ groupIds ↔ g < 4 := by
  unfold groupIds
  simp only [List.mem_cons, List.not_mem_nil, or_false]
  omega

theorem Device.noticeRecomposes_iff {d : Device} {n : EntryNotice} :
    d.noticeRecomposes n = true ↔ d.board.Holds n.train ∨ ∃ g, g < 4 ∧ (d.listAtNotice n g).2 = true := by
  simp [Device.noticeRecomposes, Board.lists_hold_iff, mem_groupIds]

theorem Board.mem_list {b : Board} {g : Nat} {m : Member} (h : m ∈ b.list g) : b.list g ∈ b.lists := by
  unfold Board.list at *
  rw [List.getD_eq_getElem?_getD] at *
  cases hl : b.lists[g]? with
  | none => simp [hl] at h
  | some l => exact List.mem_of_getElem? hl

theorem Board.not_holds {b : Board} {n : Nat} (h : ¬ b.Holds n) (g : Nat) : ∀ m ∈ b.list g, m.train ≠ n :=
  fun m hm hmn => h ⟨_, Board.mem_list hm, m, hm, hmn⟩

theorem Board.list_nodup {b : Board} (h : b.NoTrainTwice) (g : Nat) : ((b.list g).map Member.train).Nodup := by
  cases hl : b.list g with
  | nil => simp
  | cons m ms =>
    have hm : m ∈ b.list g := by rw [hl]; exact List.mem_cons_self
    exact hl ▸ h _ (Board.mem_list hm)

/-- Four lists are the lists of the groups. -/
theorem Board.lists_eq {b : Board} (h : b.lists.length = 4) : groupIds.map b.list = b.lists := by
  match hl : b.lists, h with
  | [l0, l1, l2, l3], _ => simp [groupIds, Board.list, hl]

/-- Where the pages need not follow, no list holds the train and none changes. -/
theorem Device.noticedLists_still {d : Device} {n : EntryNotice} (h4 : d.board.lists.length = 4)
    (hr : d.noticeRecomposes n = false) : ¬ d.board.Holds n.train ∧ d.noticedLists n = d.board.lists := by
  rw [← Bool.not_eq_true, Device.noticeRecomposes_iff] at hr
  push Not at hr
  obtain ⟨hno, hnone⟩ := hr
  refine ⟨hno, ?_⟩
  rw [← Board.lists_eq h4]
  refine List.map_congr_left fun g hg => ?_
  exact Device.listAtNotice_still (Board.not_holds hno g) (Bool.eq_false_iff.2 (hnone g (mem_groupIds.1 hg)))

/-! ## A notice handed on (R64) -/

/-- Of the five receivers some take a notice before the board and the others after it. -/
theorem Device.deliver_around {d : Device} (ht : d.table.OneEach) (n : EntryNotice) :
    ∃ b, d.Aside n.train b ∧ (b.boardNotice n).Aside n.train (d.deliver n) := by
  obtain ⟨before, after, k, hperm, he⟩ := Device.forAll_split (Device.boardNotice n)
    [Device.forecastNotice n, Device.stopUnitNotice n, Device.cueNotice n, Device.lastCallTest]
    (((List.Perm.swap _ _ _).cons _).trans (List.Perm.swap _ _ _)) d
  have hmem : ∀ f, f ∈ before ∨ f ∈ after → _ := fun f hf => hperm.mem_iff.1 (List.mem_append.2 hf)
  have hb := (Device.Aside.setSched n.train d k).trans
    (Device.Aside.receivers (d := { d with sched := k }) (l := before) (n := n) ht fun f hf => hmem f (.inl hf))
  refine ⟨_, hb, ?_⟩
  unfold Device.deliver
  rw [he]
  refine Device.Aside.receivers ?_ fun f hf => hmem f (.inr hf)
  rw [Device.boardNotice_writes]
  exact hb.oneEach ht

/-- What a delivery leaves of the board: the lists as they are judged on the part `c`, which offers what the part left offers. -/
structure Device.BoardTook (n : EntryNotice) (d c e : Device) : Prop where
  groups : c.board.groups = d.board.groups
  lists : c.board.lists = d.board.lists
  finished : c.board.finished = if n.cause = .removed then d.finishedAfter n else d.board.finished
  candidates : e.candidates = c.candidates
  rebuilt : e.rebuilt = c.rebuilt
  board : e.board = { d.board with finished := c.board.finished, lists := c.noticedLists n, screens := e.board.screens }
  pages : c.noticeRecomposes n = true → PagesFollow d e
  still : c.noticeRecomposes n = false → e.board.screens = d.board.screens

theorem Device.SameSupply.finishedFirst (n : EntryNotice) (d : Device) :
    (d.finishedFirst n).SameSupply (d.boardNotice n) := by
  rw [Device.boardNotice_writes, Device.finishedFirst_eq]
  exact ⟨rfl, rfl, rfl, rfl, rfl⟩

/-- What a delivery leaves of the board (R64). -/
theorem Device.deliver_boardTook {d : Device} (ht : d.table.OneEach) (h4 : d.board.lists.length = 4) (n : EntryNotice) :
    ∃ c, Device.BoardTook n d c (d.deliver n) := by
  obtain ⟨b, hb, he⟩ := Device.deliver_around ht n
  have hsupply := Device.SameSupply.finishedFirst n b
  obtain ⟨hstep, hcomposed, hsame⟩ := b.boardNotice_pages n
  have hlists : (b.finishedFirst n).board.lists = d.board.lists := by rw [Device.finishedFirst_eq]; exact hb.lists
  have hjudged : b.finishedAfter n = d.finishedAfter n := by
    unfold Device.finishedAfter Device.today
    rw [hb.clock, hb.tt, hb.finished]
  have hfinished : (b.finishedFirst n).board.finished = if n.cause = .removed then d.finishedAfter n else d.board.finished := by
    rw [Device.finishedFirst_eq]
    dsimp only
    rw [hjudged, hb.finished]
  have hboard : (b.boardNotice n).board = { d.board with
      finished := (b.finishedFirst n).board.finished
      lists := (b.finishedFirst n).noticedLists n
      screens := (b.boardNotice n).board.screens } := by
    rw [congrArg Device.board (b.boardNotice_writes n), congrArg Device.board hb.frame]
  refine ⟨b.finishedFirst n, ?_, hlists, hfinished, ?_, ?_, ?_, fun hr => ?_, fun hr => ?_⟩
  · rw [Device.finishedFirst_eq]; exact hb.groups
  · rw [he.candidates, hsupply.candidates]
  · rw [he.rebuilt, hsupply.rebuilt]
  · rw [congrArg Device.board he.frame, hboard]
  · exact (hb.pages.step.trans (hstep.trans he.pages.step)).follow (he.pages.composed (hcomposed hr))
  · obtain ⟨hno, hstill⟩ := Device.noticedLists_still (by rw [hlists]; exact h4) hr
    have hno' : ¬ d.board.Holds n.train := by
      unfold Board.Holds at hno ⊢
      rwa [hlists] at hno
    have hno'' : ¬ (b.boardNotice n).board.Holds n.train := by
      rw [hboard, hstill, hlists]
      exact hno'
    rw [congrArg Board.screens (he.still hno''), hsame hr, congrArg Board.screens (hb.still hno')]

namespace Device.BoardTook

variable {n : EntryNotice} {d c e : Device}

theorem list_before (h : BoardTook n d c e) (g : Nat) : c.board.list g = d.board.list g := by
  unfold Board.list
  rw [h.lists]

theorem list_after (h : BoardTook n d c e) {g : Nat} (hg : g < 4) : e.board.list g = (c.listAtNotice n g).1 := by
  rw [h.board]
  exact getD_map_groupIds (f := fun g => (c.listAtNotice n g).1) hg

theorem length (h : BoardTook n d c e) : e.board.lists.length = 4 := by
  rw [h.board]
  rfl

theorem candidate (h : BoardTook n d c e) : e.Candidate = c.Candidate := by
  funext g m
  rw [← Device.mem_candidates, ← Device.mem_candidates, h.candidates]

theorem candidateTrain (h : BoardTook n d c e) : e.CandidateTrain = c.CandidateTrain := by
  unfold Device.CandidateTrain
  rw [h.candidate]

theorem holds_iff (h : BoardTook n d c e) {m : Nat} : c.board.Holds m ↔ d.board.Holds m := by
  unfold Board.Holds
  rw [h.lists]

theorem coversOne_iff (h : BoardTook n d c e) {g p q : Nat} : c.board.CoversOne g p q ↔ d.board.CoversOne g p q := by
  unfold Board.CoversOne Board.groupMask
  rw [h.groups]

/-- The lists after a notice of any cause but PLATFORM (R157, R158). -/
theorem lists_noticed (h : BoardTook n d c e) (hj : n.Judges) (hd : d.board.NoTrainTwice) {g : Nat} (hg : g < 4) :
    ListNoticed (e.Candidate g) (¬ n.Goes ∧ e.CandidateTrain g n.train) n.train (e.rebuilt g) (d.board.list g)
      (e.board.list g) := by
  rw [h.list_after hg, h.candidate, h.candidateTrain, h.rebuilt, ← h.list_before]
  exact Device.listAtNotice_noticed hj (by rw [h.list_before]; exact Board.list_nodup hd g)

/-- When the pages follow a notice of any cause but PLATFORM (R162). -/
theorem recomposes_iff (h : BoardTook n d c e) (hj : n.Judges) :
    c.noticeRecomposes n = true ↔ d.board.Holds n.train ∨ (¬ n.Goes ∧ ∃ g, g < 4 ∧ e.CandidateTrain g n.train) := by
  rw [Device.noticeRecomposes_iff, h.holds_iff, h.candidateTrain]
  refine or_congr_right' fun hno => ?_
  have ha : ∀ g, ∀ m ∈ c.board.list g, m.train ≠ n.train := fun g => Board.not_holds (by rwa [h.holds_iff]) g
  simp only [Device.listAtNotice_rebuilt hj (ha _)]
  tauto

/-- Where the pages need not follow, no list changed. -/
theorem board_still (h : BoardTook n d c e) (h4 : d.board.lists.length = 4) (hr : c.noticeRecomposes n = false) :
    e.board = { d.board with finished := c.board.finished } := by
  rw [h.board, (Device.noticedLists_still (by rw [h.lists]; exact h4) hr).2, h.lists, h.still hr]

end Device.BoardTook

/-- The board after an ENTERED, REPORT, CANCEL or REINSTATE notice (R158, R162). -/
theorem Device.deliver_noticed {d : Device} (ht : d.table.OneEach) (h4 : d.board.lists.length = 4)
    (hd : d.board.NoTrainTwice) {n : EntryNotice} (hj : n.Judges) (hr : n.cause ≠ .removed) :
    BoardNoticed n.train n.Goes d (d.deliver n) := by
  obtain ⟨c, hc⟩ := Device.deliver_boardTook ht h4 n
  have hfinished := hc.finished
  rw [if_neg hr] at hfinished
  refine ⟨?_, ⟨hc.length, fun g hg => hc.lists_noticed hj hd hg⟩, fun h => hc.pages ((hc.recomposes_iff hj).2 h),
    fun hno hgone => ?_⟩
  · conv_lhs => rw [hc.board, hfinished]
    rw [hc.board]
  · have hquiet : c.noticeRecomposes n = false := by
      rw [← Bool.not_eq_true, hc.recomposes_iff hj]
      rintro (h | ⟨hstay, g, hg, hcand⟩)
      · exact hno h
      · exact hgone.elim hstay fun h => h g hg hcand
    rw [hc.board_still h4 hquiet, hfinished]

/-- The board after a PLATFORM notice (R158, R162). -/
theorem Device.deliver_platformNoticed {d : Device} (ht : d.table.OneEach) (h4 : d.board.lists.length = 4)
    {n : EntryNotice} {former new : Nat} (hn : n.cause = .platform former new) :
    PlatformNoticed n.train former new d (d.deliver n) := by
  obtain ⟨c, hc⟩ := Device.deliver_boardTook ht h4 n
  have hfinished := hc.finished
  rw [if_neg (by rw [hn]; nofun)] at hfinished
  have hrec : c.noticeRecomposes n = true ↔ d.board.Holds n.train ∨ ∃ g, g < 4 ∧ d.board.CoversOne g former new := by
    rw [Device.noticeRecomposes_iff, hc.holds_iff]
    refine or_congr_right (exists_congr fun g => and_congr_right fun _ => ?_)
    obtain ⟨hcov, hnot⟩ := c.listAtNotice_platform hn g
    rw [← hc.coversOne_iff]
    by_cases h : c.board.CoversOne g former new
    · simp [hcov h, h]
    · simp [hnot h, h]
  refine ⟨?_, ⟨hc.length, fun g hg => ?_⟩, fun h => hc.pages (hrec.2 h), fun hno hnone => ?_⟩
  · conv_lhs => rw [hc.board, hfinished]
    rw [hc.board]
  · obtain ⟨hcov, hnot⟩ := c.listAtNotice_platform hn g
    rw [← hc.coversOne_iff, hc.list_after hg, hc.rebuilt]
    exact ⟨fun h => by rw [hcov h], fun h => by rw [hnot h, hc.list_before]⟩
  · have hquiet : c.noticeRecomposes n = false := by
      rw [← Bool.not_eq_true, hrec]
      rintro (h | ⟨g, hg, hcov⟩)
      · exact hno h
      · exact hnone g hg hcov
    rw [hc.board_still h4 hquiet, hfinished]

end Sys2Proof.Machine

/-! # Entries entered and removed, and their lists -/

namespace Sys2Proof.Machine

/-! ## The laws the lists rest on -/

/-- What lists rest on: no train twice in the table or in a list, lawful banks, and a list for each group. -/
structure Device.ListsSound (d : Device) : Prop where
  oneEach : d.table.OneEach
  banks : d.tt.Lawful
  length : d.board.lists.length = 4
  once : d.board.NoTrainTwice

theorem Device.BoardSound.listsSound {d : Device} (h : d.BoardSound) : d.ListsSound := by
  obtain ⟨htable, htt, hboard, hd⟩ := h
  exact ⟨htable.oneEach, htt, hboard.lists, hd⟩

theorem AlikeBut.eq_of_absent {t : Nat} {xs ys : List Entry} (h : AlikeBut t xs ys) (ha : ∀ x ∈ xs, x.train ≠ t) : ys = xs := by
  induction h with
  | nil => rfl
  | @cons x y _ _ hxy _ ih =>
    rw [hxy.2 (ha x List.mem_cons_self), ih fun x hx => ha x (List.mem_cons_of_mem _ hx)]

/-- What a delivery may write, and the entries it leaves (R64). -/
theorem Device.deliver_writes {d : Device} (ht : d.table.OneEach) (n : EntryNotice) :
    d.deliver n = { d with
      table := { d.table with entries := (d.deliver n).table.entries }, board := (d.deliver n).board
      line := (d.deliver n).line, sru := (d.deliver n).sru, cues := (d.deliver n).cues, co := (d.deliver n).co
      ports := (d.deliver n).ports, sched := (d.deliver n).sched } ∧
      AlikeBut n.train d.table.entries (d.deliver n).table.entries := by
  obtain ⟨b, hb, he⟩ := Device.deliver_around ht n
  have hentries : (b.boardNotice n).table = b.table := by rw [Device.boardNotice_writes]
  refine ⟨?_, hb.entries.trans (by rw [← hentries]; exact he.entries)⟩
  have hfull : (d.deliver n).table.full = d.table.full := by
    rw [he.frame, hentries, hb.frame]
  obtain ⟨hphase, hclock, htt, hfares, hsale, hjournal, hnotices, hhalt, -, -⟩ := Device.deliver_frame d n
  rw [← hphase, ← hclock, ← htt, ← hfares, ← hsale, ← hjournal, ← hnotices, ← hhalt]
  dsimp only
  rw [← hfull]

/-- A list at a notice is kept, rebuilt, or left with the refill. -/
theorem Device.listAtNotice_cases (d : Device) (n : EntryNotice) (g : Nat) :
    (d.listAtNotice n g).1 = d.board.list g ∨ (d.listAtNotice n g).1 = d.rebuilt g ∨
      (d.listAtNotice n g).1 = leaveRefill (d.candidates g) n.train (d.board.list g) := by
  by_cases hj : n.Judges
  · by_cases hg : n.Goes
    · rw [Device.listAtNotice_of_goes hg]
      exact .inr (.inr rfl)
    · rw [Device.listAtNotice_of_stays hj hg]
      split
      · split
        · exact .inl rfl
        · exact .inr (.inr rfl)
      · split
        · exact .inr (.inl rfl)
        · exact .inl rfl
  · unfold EntryNotice.Judges at hj
    push Not at hj
    obtain ⟨former, new, hc⟩ := hj
    obtain ⟨hcov, hnot⟩ := d.listAtNotice_platform hc g
    by_cases h : d.board.CoversOne g former new
    · rw [hcov h]; exact .inr (.inl rfl)
    · rw [hnot h]; exact .inl rfl

/-- A delivery keeps the laws the lists rest on. -/
theorem Device.ListsSound.deliver {d : Device} (h : d.ListsSound) (n : EntryNotice) : (d.deliver n).ListsSound := by
  obtain ⟨hframe, hentries⟩ := Device.deliver_writes h.oneEach n
  obtain ⟨c, hc⟩ := Device.deliver_boardTook h.oneEach h.length n
  have honce : (d.deliver n).table.OneEach := by
    unfold RunningTable.OneEach
    rw [hentries.trains]
    exact h.oneEach
  have htt : (d.deliver n).tt.Lawful := by simpa only [Device.deliver_frame] using h.banks
  refine ⟨honce, htt, hc.length, fun l hl => ?_⟩
  rw [hc.board] at hl
  obtain ⟨g, -, rfl⟩ := List.mem_map.1 hl
  have hlist := Board.list_nodup h.once g
  rw [← hc.list_before] at hlist
  rcases c.listAtNotice_cases n g with he | he | he <;> rw [he]
  · exact hlist
  · rw [← hc.rebuilt]; exact Device.rebuilt_nodup honce htt g
  · exact leaveRefill_nodup hlist

/-! ## Removal (R73) -/

/-- No cue is offered at a removal (R171). -/
theorem Device.deliver_cues_of_removed {d : Device} {n : EntryNotice} (hn : n.cause = .removed) :
    (d.deliver n).cues = d.cues := by
  unfold Device.deliver
  refine Device.forAll_actions_keep Device.cues d (fun _ _ => rfl) fun f hf x => ?_
  simp only [List.mem_cons, List.not_mem_nil, or_false] at hf
  rcases hf with rfl | rfl | rfl | rfl | rfl
  · unfold Device.forecastNotice
    rw [hn]
  · unfold Device.stopUnitNotice
    rw [hn]
    simp only [Device.refreshLamps_frame, Device.stopRemoved_frame]
  · simp only [Device.boardNotice_frame]
  · have hno : (x.entry? n.train).bind n.cueFor = none := by
      have hcue : n.cueFor = fun _ => none := by funext e; simp [EntryNotice.cueFor, hn]
      rw [hcue]
      cases x.entry? n.train <;> rfl
    unfold Device.cueNotice
    rw [hno]
  · simp only [Device.lastCallTest_frame]

/-- An entry removed with its notice (R73, R108, R155, R157, R158, R162). -/
theorem Device.removeTrain_removed {d : Device} (h : d.ListsSound) {v : Entry} (hv : d.entry? v.train = some v) :
    Removed v d (d.removeTrain v.train) ∧ (d.removeTrain v.train).ListsSound := by
  have heq : d.removeTrain v.train = (d.deleteEntry v.train).deliver v.removedNotice := by
    unfold Device.removeTrain
    rw [hv]
  have hsound : (d.deleteEntry v.train).ListsSound :=
    ⟨h.oneEach.sublist (List.filter_sublist.map _), h.banks, h.length, h.once⟩
  rw [heq]
  refine ⟨?_, hsound.deliver _⟩
  obtain ⟨hframe, hentries⟩ := Device.deliver_writes hsound.oneEach v.removedNotice
  obtain ⟨c, hc⟩ := Device.deliver_boardTook hsound.oneEach hsound.length v.removedNotice
  have hgoes : v.removedNotice.Goes := .inl rfl
  have hjudges : v.removedNotice.Judges := nofun
  have hdeleted : (d.deleteEntry v.train).table.entries = d.table.entries.filter (fun x => decide (x.train ≠ v.train)) :=
    List.filter_congr fun x _ => by simp [bne, beq_eq_decide]
  have hsame := hentries.eq_of_absent fun x hx => by
    rw [hdeleted] at hx
    exact of_decide_eq_true (List.mem_filter.1 hx).2
  have hcues := Device.deliver_cues_of_removed (d := d.deleteEntry v.train) (n := v.removedNotice) rfl
  have hboard : ((d.deleteEntry v.train).deliver v.removedNotice).board = { d.board with
      finished := ((d.deleteEntry v.train).deliver v.removedNotice).board.finished
      lists := ((d.deleteEntry v.train).deliver v.removedNotice).board.lists
      screens := ((d.deleteEntry v.train).deliver v.removedNotice).board.screens } := by
    conv_lhs => rw [hc.board]
    rw [hc.board]
    rfl
  have hstays : ∀ X, (¬ v.removedNotice.Goes ∧ X) ↔ False := fun X => ⟨fun h => h.1 hgoes, False.elim⟩
  refine ⟨?_, ?_, ⟨hc.length, fun g hg => ?_⟩, fun hh => ?_, fun hh => ?_⟩
  · refine hframe.trans ?_
    rw [hsame, hcues, ← hdeleted, hboard]
    rfl
  · rw [congrArg Board.finished hc.board]
    dsimp only
    rw [hc.finished]
    exact if_pos rfl
  · have hlists := hc.lists_noticed hjudges h.once hg
    rwa [propext (hstays _)] at hlists
  · exact hc.pages ((hc.recomposes_iff hjudges).2 (.inl hh))
  · have hquiet : c.noticeRecomposes v.removedNotice = false := by
      rw [← Bool.not_eq_true, hc.recomposes_iff hjudges, hstays, or_false]
      exact hh
    have hstill := hc.board_still h.length hquiet
    exact ⟨(congrArg Board.lists hstill).trans rfl, (congrArg Board.screens hstill).trans rfl⟩

/-! ## The entry that makes way (R56) -/

theorem Entry.older_iff {a b : Entry} : a.older b = true ↔ a.replacedBefore b := by
  unfold Entry.older Entry.replacedBefore
  by_cases hd : a.date = b.date
  · rw [if_neg (by simpa using hd)]
    cases a.lastTime <;> cases b.lastTime <;> simp [hd, dateDiff_self]
  · rw [if_pos hd]
    simp [hd]

theorem oldest_mem {l : List Entry} {e : Entry} (h : oldest l = some e) : e ∈ l := by
  induction l generalizing e with
  | nil => cases h
  | cons x xs ih =>
    unfold oldest at h
    cases ho : oldest xs with
    | none => rw [ho] at h; exact List.mem_cons.2 (.inl (Option.some_inj.1 h).symm)
    | some o =>
      rw [ho] at h
      have := Option.some_inj.1 h
      split at this
      · exact this ▸ List.mem_cons_of_mem x (ih ho)
      · exact this ▸ List.mem_cons_self

/-- An entry that is replaced before every other is the oldest (R56). -/
theorem oldest_eq_some {l : List Entry} {v : Entry} (hv : v ∈ l)
    (hfirst : ∀ x ∈ l, x ≠ v → v.older x = true ∧ x.older v = false) : oldest l = some v := by
  induction l with
  | nil => cases hv
  | cons x xs ih =>
    unfold oldest
    by_cases hin : v ∈ xs
    · rw [ih hin fun y hy => hfirst y (List.mem_cons_of_mem x hy)]
      dsimp only
      by_cases hx : x = v
      · rw [hx, ite_self]
      · rw [if_pos (hfirst x List.mem_cons_self hx).1]
    · obtain rfl := (List.mem_cons.1 hv).resolve_right hin
      cases ho : oldest xs with
      | none => rfl
      | some o =>
        have hne : o ≠ v := fun h => hin (h ▸ oldest_mem ho)
        dsimp only
        rw [(hfirst o (List.mem_cons_of_mem v (oldest_mem ho)) hne).2]
        simp

theorem Entry.replaceable_iff {e : Entry} : e.replaceable = true ↔ e.Replaceable := by
  simp [Entry.replaceable, or_assoc]

theorem Device.MakesWay.victim {d : Device} {n : Nat} {v : Entry} (h : d.MakesWay n v) : d.table.victim = some v := by
  obtain ⟨-, -, -, hv, hrep, hfirst⟩ := h
  refine oldest_eq_some (List.mem_filter.2 ⟨hv, Entry.replaceable_iff.2 hrep⟩) fun x hx hne => ?_
  obtain ⟨hx, hxrep⟩ := List.mem_filter.1 hx
  obtain ⟨hbefore, hafter⟩ := hfirst x hx hne (Entry.replaceable_iff.1 hxrep)
  exact ⟨Entry.older_iff.2 hbefore, Bool.eq_false_iff.2 fun h => hafter (Entry.older_iff.1 h)⟩

/-! ## Entering (R55, R56, R64) -/

theorem Device.mem_insertEntry {d : Device} {e x : Entry} :
    x ∈ (d.insertEntry e).table.entries ↔ x = e ∨ x ∈ d.table.entries := by
  unfold Device.insertEntry
  rw [(insertBy_perm _ _ _).mem_iff, List.mem_cons]

theorem Device.ListsSound.insertEntry {d : Device} (h : d.ListsSound) {e : Entry} (hn : d.entry? e.train = none) :
    (d.insertEntry e).ListsSound := by
  refine ⟨?_, h.banks, h.length, h.once⟩
  unfold RunningTable.OneEach Device.insertEntry
  rw [((insertBy_perm _ _ _).map _).nodup_iff, List.map_cons, List.nodup_cons]
  refine ⟨fun hmem => ?_, h.oneEach⟩
  obtain ⟨x, hx, hxe⟩ := List.mem_map.1 hmem
  exact Device.entry?_eq_none.1 hn x hx hxe

/-- A new entry leaves those of other trains. -/
theorem Device.insertEntry_entry? {d : Device} (h : d.ListsSound) {e : Entry} (hn : d.entry? e.train = none) {m : Nat}
    (hm : m ≠ e.train) : (d.insertEntry e).entry? m = d.entry? m := by
  ext x
  rw [h.oneEach.entry?_eq_some, (h.insertEntry hn).oneEach.entry?_eq_some, Device.mem_insertEntry]
  constructor
  · rintro ⟨rfl | hx, hxm⟩
    · exact absurd hxm.symm hm
    · exact ⟨hx, hxm⟩
  · exact fun ⟨hx, hxm⟩ => ⟨.inr hx, hxm⟩

/-- A recompute writes the forecast fields alone of the entries (R74). -/
theorem Device.recomputeTrain_cores {d : Device} (ht : d.table.OneEach) (tick : Bool) (t : Nat) :
    (d.recomputeTrain tick t).table.entries.map Entry.core = d.table.entries.map Entry.core := by
  unfold Device.recomputeTrain
  split
  · rfl
  · next e he =>
    split
    · simp only [Device.when_table, Device.recomposeFor_frame, Device.trainCue_frame, ite_self, Device.updateEntry_table,
        List.map_map]
      refine List.map_congr_left fun x hx => ?_
      dsimp only [Function.comp_apply]
      split
      · next hxt =>
        rw [Option.some_inj.1 (he.symm.trans (ht.entry?_eq_some.2 ⟨hx, beq_iff_eq.1 hxt⟩))]
        exact Entry.recompute_core _ _ _ _ _
      · rfl
    · rfl

/-- The receivers of an ENTERED notice write the forecast fields alone of the entries, and leave the line (R64, R76). -/
theorem Device.deliver_entered {d : Device} (ht : d.table.OneEach) {n : EntryNotice} (hn : n.cause = .entered) :
    (d.deliver n).line = d.line ∧ (d.deliver n).table.entries.map Entry.core = d.table.entries.map Entry.core := by
  unfold Device.deliver
  refine Device.forAll_induction (P := fun x => x.line = d.line ∧ x.table.entries.map Entry.core = d.table.entries.map Entry.core)
    ⟨rfl, rfl⟩ (fun _ _ h => h) fun f hf x ⟨hline, hcores⟩ => ?_
  rw [← hline, ← hcores]
  simp only [List.mem_cons, List.not_mem_nil, or_false] at hf
  rcases hf with rfl | rfl | rfl | rfl | rfl
  · have hx : x.table.OneEach := by
      have htrains := congrArg (List.map Entry.train) hcores
      simp only [List.map_map] at htrains
      exact (congrArg List.Nodup htrains).mpr ht
    unfold Device.forecastNotice
    rw [hn]
    exact ⟨by simp only [Device.recomputeTrain_frame], Device.recomputeTrain_cores hx _ _⟩
  · unfold Device.stopUnitNotice
    rw [hn]
    exact ⟨rfl, rfl⟩
  · simp only [Device.boardNotice_frame, and_self]
  · simp only [Device.cueNotice_frame, and_self]
  · simp only [Device.lastCallTest_frame, and_self]

/-- Of one train the two lists find entries of one core, where cores agree. -/
theorem find?_of_cores {xs ys : List Entry} (h : ys.map Entry.core = xs.map Entry.core) {m : Nat} {x : Entry}
    (hx : xs.find? (fun e => e.train == m) = some x) :
    ∃ y, ys.find? (fun e => e.train == m) = some y ∧ y.core = x.core := by
  have hmap := congrArg (List.find? (fun e => e.train == m)) h
  rw [List.find?_map, List.find?_map] at hmap
  have hcomp : (fun e : Entry => e.train == m) ∘ Entry.core = fun e => e.train == m := rfl
  rw [hcomp, hx, Option.map_some, Option.map_eq_some_iff] at hmap
  exact hmap

/-- What entering a train leaves of the part `w`: its entry, the others as they were, and its lists (R55, R64, R158). -/
structure Device.Entered (e : Entry) (w u : Device) : Prop where
  sound : u.ListsSound
  entry : ∃ x, u.entry? e.train = some x ∧ x.core = e.core
  others : ∀ m, m ≠ e.train → u.entry? m = w.entry? m
  frame : u = { w with table := { w.table with entries := u.table.entries }, sru := u.sru, board := u.board, cues := u.cues
                       co := u.co, ports := u.ports, sched := u.sched }
  noticed : BoardNoticed e.train False w u

theorem Device.insertEntry_entered {w : Device} (h : w.ListsSound) {e : Entry} (hn : w.entry? e.train = none) :
    Device.Entered e w ((w.insertEntry e).deliver e.enteredNotice) := by
  have hsound := h.insertEntry hn
  obtain ⟨hline, hcores⟩ := Device.deliver_entered hsound.oneEach (n := e.enteredNotice) rfl
  obtain ⟨hframe, hentries⟩ := Device.deliver_writes hsound.oneEach e.enteredNotice
  refine ⟨hsound.deliver _, ?_, fun m hm => ?_, ?_, ?_⟩
  · exact find?_of_cores hcores (hsound.oneEach.entry?_eq_some.2 ⟨Device.mem_insertEntry.2 (.inl rfl), rfl⟩)
  · rw [← Device.insertEntry_entry? h hn hm]
    exact hentries.find?_other fun x hx => by rw [beq_iff_eq.1 hx]; exact hm
  · refine hframe.trans ?_
    rw [hline]
    rfl
  · have hnoticed := Device.deliver_noticed hsound.oneEach hsound.length hsound.once (n := e.enteredNotice) nofun nofun
    have hgoes : e.enteredNotice.Goes = False := eq_false fun h => by
      rcases h with h | ⟨h, -⟩ <;> cases h
    rw [hgoes] at hnoticed
    exact ⟨hnoticed.frame, hnoticed.lists, hnoticed.pages, hnoticed.still⟩

/-- A train that a frame meets without an entry is entered (R55, R56). -/
theorem Device.enterTrain_entersAs {d : Device} (h : d.ListsSound) {n : Nat} {e : Entry} (hm : d.Meets n e)
    (hn : d.entry? n = none) :
    ∃ u, d.enterTrain n true = (.entered, u) ∧ d.EntersAs n e u ∧ u.ListsSound ∧ ∃ x, u.entry? n = some x ∧ x.core = e.core := by
  obtain ⟨-, hroom, hfresh⟩ := Or.resolve_left hm (by simp [hn])
  have hentry : d.enterTrain n true = d.makeEntry e ∧ e.train = n := by
    unfold Device.enterTrain Device.today
    rcases hfresh with ⟨c, hc, rfl⟩ | ⟨hc, hu, rfl⟩
    · rw [hc]; exact ⟨rfl, rfl⟩
    · rw [hc, hu]; exact ⟨rfl, rfl⟩
  obtain ⟨henter, rfl⟩ := hentry
  rw [henter]
  unfold Device.makeEntry
  by_cases hlt : d.table.entries.length < 24
  · rw [if_pos hlt]
    have hin := Device.insertEntry_entered h hn
    exact ⟨_, rfl, .inr ⟨hn, hin.entry, d, .inl ⟨hlt, rfl⟩, hin.others, hin.frame, hin.noticed⟩, hin.sound, hin.entry⟩
  · obtain ⟨v, hv⟩ := hroom.resolve_left hlt
    rw [if_neg hlt, hv.victim]
    have ⟨_, _, _, hmem, _⟩ := hv
    obtain ⟨hremoved, hsound⟩ := Device.removeTrain_removed h (h.oneEach.entry?_eq_some.2 ⟨hmem, rfl⟩)
    have hnw : (d.removeTrain v.train).entry? e.train = none := by
      rw [Device.entry?_eq_none] at hn ⊢
      rw [hremoved.frame]
      exact fun x hx => hn x (List.mem_filter.1 hx).1
    have hin := Device.insertEntry_entered hsound hnw
    exact ⟨_, rfl, .inr ⟨hn, hin.entry, _, .inr ⟨v, hv, hremoved⟩, hin.others, hin.frame, hin.noticed⟩, hin.sound, hin.entry⟩

end Sys2Proof.Machine

/-! # RUN and SERVICE frames and the lists -/

namespace Sys2Proof.Machine

/-! ## The entry an act writes -/

theorem PagesFollow.of_board {d d' e : Device} (h : PagesFollow d e) (hb : d'.board = d.board) : PagesFollow d' e := by
  unfold PagesFollow at *
  rwa [hb]

/-- What a notice leaves is judged against the board before it alone. -/
theorem BoardNoticed.of_board {n : Nat} {gone gone' : Prop} {d d' e : Device} (h : BoardNoticed n gone d e)
    (hb : d'.board = d.board) (hg : gone ↔ gone') : BoardNoticed n gone' d' e := by
  obtain ⟨hframe, hlists, hpages, hstill⟩ := h
  rw [propext hg] at hlists hpages hstill
  refine ⟨by rw [hb]; exact hframe, by rw [hb]; exact hlists, fun h => (hpages ?_).of_board hb, ?_⟩
  · rwa [← hb]
  · rw [hb]; exact hstill

theorem PlatformNoticed.of_board {n p q : Nat} {d d' e : Device} (h : PlatformNoticed n p q d e) (hb : d'.board = d.board) :
    PlatformNoticed n p q d' e := by
  obtain ⟨hframe, hlists, hpages, hstill⟩ := h
  refine ⟨by rw [hb]; exact hframe, by rw [hb]; exact hlists, fun h => (hpages ?_).of_board hb, ?_⟩
  · rwa [← hb]
  · rw [hb]; exact hstill

theorem Device.updateEntry_entry? {d : Device} {t : Nat} {f : Entry → Entry} (hf : ∀ x, x.train = t → (f x).train = t) :
    (d.updateEntry t f).entry? t = (d.entry? t).map f := by
  unfold Device.entry? Device.updateEntry
  rw [List.find?_map]
  have hcomp : ((fun e : Entry => e.train == t) ∘ fun e => if e.train == t then f e else e) = fun e => e.train == t := by
    funext x
    by_cases hx : x.train = t
    · simp [hx, hf x hx]
    · simp [hx]
  rw [hcomp]
  cases hx : d.table.entries.find? (fun e => e.train == t) with
  | none => rfl
  | some x => simp [Device.train_of_entry? hx]

theorem Device.ListsSound.updateEntry {d : Device} (h : d.ListsSound) {t : Nat} {f : Entry → Entry}
    (hf : ∀ x, x.train = t → (f x).train = t) : (d.updateEntry t f).ListsSound := by
  refine ⟨?_, h.banks, h.length, h.once⟩
  have htrains : (d.updateEntry t f).table.entries.map Entry.train = d.table.entries.map Entry.train := by
    unfold Device.updateEntry
    rw [List.map_map]
    refine List.map_congr_left fun x _ => ?_
    by_cases hx : x.train = t
    · simp [hx, hf x hx]
    · simp [hx]
  unfold RunningTable.OneEach
  rw [htrains]
  exact h.oneEach

/-- The part after the touch and the act that makes the train's entry `y`, the notice not yet handed on. -/
def Device.acted (n : Nat) (y : Entry) (u : Device) : Device := (u.touch n).updateEntry n (fun _ => y)

theorem Device.touch_entry? {u : Device} {n : Nat} {x : Entry} (hx : u.entry? n = some x) :
    (u.touch n).entry? n = some { x with touched := true } := by
  refine (Device.updateEntry_entry? (f := fun e => { e with touched := true }) fun _ h => h).trans ?_
  rw [hx]
  rfl

section Acted

variable {u : Device} {n : Nat} {x y : Entry}

theorem Device.ListsSound.acted (h : u.ListsSound) (hy : y.train = n) : (u.acted n y).ListsSound :=
  (h.updateEntry (f := fun e => { e with touched := true }) fun _ h => h).updateEntry fun _ _ => hy

/-- The entry after the act and its notice, the forecast and the stop request aside. -/
theorem Device.acted_entry? (h : u.ListsSound) (hx : u.entry? n = some x) (hy : y.train = n) (nt : EntryNotice) :
    ∃ e', ((u.acted n y).deliver nt).entry? n = some e' ∧ y.Alike e' := by
  have hmade : (u.acted n y).entry? n = some y := by
    unfold Device.acted
    rw [Device.updateEntry_entry? fun _ _ => hy, Device.touch_entry? hx]
    rfl
  exact (Device.deliver_writes (h.acted hy).oneEach nt).2.find?_train hmade

theorem Device.acted_noticed (h : u.ListsSound) (hy : y.train = n) {nt : EntryNotice} (hnt : nt.train = n) {gone : Prop}
    (hj : nt.Judges) (hr : nt.cause ≠ .removed) (hg : nt.Goes ↔ gone) :
    BoardNoticed n gone u ((u.acted n y).deliver nt) := by
  have hsound := h.acted hy
  have hnoticed := Device.deliver_noticed hsound.oneEach hsound.length hsound.once hj hr
  rw [hnt] at hnoticed
  exact hnoticed.of_board rfl hg

theorem Device.acted_platformNoticed (h : u.ListsSound) (hy : y.train = n) {nt : EntryNotice} (hnt : nt.train = n)
    {former new : Nat} (hc : nt.cause = .platform former new) :
    PlatformNoticed n former new u ((u.acted n y).deliver nt) := by
  have hsound := h.acted hy
  have hnoticed := Device.deliver_platformNoticed hsound.oneEach hsound.length hc
  rw [hnt] at hnoticed
  exact hnoticed.of_board rfl

end Acted

/-! ## The part a frame works on -/

/-- The part that a frame of train `n` works on, met with the entry `e`. -/
structure Device.WorksOn (d : Device) (n : Nat) (e : Entry) (u : Device) : Prop where
  enters : d.EntersAs n e u
  sound : u.ListsSound
  entry : ∃ x, u.entry? n = some x ∧ x.core = e.core
  halt : u.halt = d.halt

theorem Device.WorksOn.of_entry {d : Device} (h : d.ListsSound) {n : Nat} {e : Entry} (hn : d.entry? n = some e) :
    d.WorksOn n e d := ⟨.inl ⟨hn, rfl⟩, h, ⟨e, hn, rfl⟩, rfl⟩

theorem Device.enterTrain_worksOn {d : Device} (h : d.ListsSound) {n : Nat} {e : Entry} (hm : d.Meets n e)
    (hn : d.entry? n = none) : ∃ u, d.enterTrain n true = (.entered, u) ∧ d.WorksOn n e u := by
  obtain ⟨u, hu, henters, hsound, hentry⟩ := Device.enterTrain_entersAs h hm hn
  have hhalt : (d.enterTrain n true).2.halt = d.halt := by simp only [Device.enterTrain_frame]
  rw [hu] at hhalt
  exact ⟨u, hu, henters, hsound, hentry, hhalt⟩

theorem Device.ensureEntry_worksOn {d : Device} (h : d.ListsSound) {n : Nat} {e : Entry} (hm : d.Meets n e) :
    d.WorksOn n e (d.ensureEntry n) := by
  unfold Device.ensureEntry
  cases hn : d.entry? n with
  | some x =>
    rcases hm with hs | ⟨hnone, -⟩
    · exact .of_entry h hs
    · rw [hn] at hnone; cases hnone
  | none =>
    obtain ⟨u, hu, hworks⟩ := Device.enterTrain_worksOn h hm hn
    dsimp only
    rw [hu]
    exact hworks

/-! ## RUN frames (R58 to R63) -/

/-- The judgement reads of an entry what its core holds. -/
theorem Entry.judge_of_core {x e : Entry} (h : x.core = e.core) (own : Nat) : x.judge own = e.judge own :=
  calc x.judge own
    _ = x.core.judge own := rfl
    _ = e.core.judge own := by rw [h]
    _ = e.judge own := rfl

theorem Entry.newReport_iff {e : Entry} {k : Nat} {ev : RunEvent} : e.newReport k ev = true ↔ e.NewAt k ev := by
  unfold Entry.newReport Entry.NewAt
  cases e.lastIndex <;> simp

/-- The first route point that matches is found with its index (R60). -/
theorem routeIndex_eq_some {p : Nat} {route : List RoutePoint} {k : Nat} {r : RoutePoint} (hk : route[k]? = some r)
    (hp : r.point = p) (hfirst : ∀ j x, j < k → route[j]? = some x → x.point ≠ p) (m : Nat) :
    routeIndex p m route = some (m + k, r) := by
  induction route generalizing k m with
  | nil => simp at hk
  | cons x xs ih =>
    unfold routeIndex
    cases k with
    | zero =>
      obtain rfl : x = r := by simpa using hk
      rw [if_pos hp, Nat.add_zero]
    | succ k =>
      rw [if_neg (hfirst 0 x (Nat.succ_pos k) rfl),
        ih (k := k) (by simpa using hk) (fun j y hj hy => hfirst (j + 1) y (Nat.succ_lt_succ hj) (by simpa using hy)) (m + 1),
        Nat.add_assoc, Nat.add_comm 1 k]

/-- A new report is more than a touch (R60, R62, R63). -/
theorem Device.NewReport.judge {d : Device} {train : BitVec 14} {point : BitVec 11} {data : List Byte} {e : Entry} {ev : RunEvent}
    {time : Nat} (h : d.NewReport train point data e ev time) : e.judge d.halt.ownPoint point.toNat ev ≠ .touchOnly := by
  unfold Entry.judge
  rw [if_neg (not_or.2 h.running)]
  rcases h.new with ⟨hp, hnew⟩ | ⟨hp, hheld, hstate⟩ | ⟨hp, c, k, r, hheld, hk, hr, hfirst, hnew⟩
  · rw [if_pos hp, if_pos (Entry.newReport_iff.2 hnew)]; nofun
  · rw [if_neg hp, hheld]
    dsimp only
    rw [if_pos hstate]; nofun
  · rw [if_neg hp, hheld]
    dsimp only
    rw [routeIndex_eq_some hk hr hfirst 1]
    dsimp only
    rw [Nat.add_comm 1 k, if_pos (Entry.newReport_iff.2 hnew)]; nofun

/-- A RUN frame in time is carried out as a report on the part that has the entry of its train (R55, R58). -/
theorem Device.runFrame_eq {d : Device} (h : d.ListsSound) {n point : Nat} {data : List Byte} {e : Entry} {time : Nat}
    (hm : d.Meets n e) (ht : d.RunTime n e (byteAt data 4) (u24At data 1) time) :
    ∃ u x, d.WorksOn n e u ∧ d.runFrame n point data = u.runReport n point (byteAt data 0) (u24At data 1) x := by
  unfold Device.runFrame
  cases hn : d.entry? n with
  | some x =>
    obtain rfl : x = e := by
      rcases hm with hs | ⟨hnone, -⟩
      · exact Option.some_inj.1 (hn.symm.trans hs)
      · rw [hn] at hnone; cases hnone
    refine ⟨d, ?_⟩
    dsimp only
    by_cases hdate : byteAt data 4 = dateByte x.date
    · rw [if_pos hdate]; exact ⟨_, .of_entry h hn, rfl⟩
    · have hnext : byteAt data 4 = dateByte (x.date + 1) := (ht.resolve_left fun h => hdate h.1).2.1
      rw [if_neg hdate, if_pos hnext]; exact ⟨_, .of_entry h hn, rfl⟩
  | none =>
    have hdate : e.date = d.clock.date := by
      obtain ⟨-, -, ⟨_, -, rfl⟩ | ⟨-, -, rfl⟩⟩ := Or.resolve_left hm (by simp [hn]) <;> rfl
    have hbyte : byteAt data 4 = dateByte d.today := by
      rcases ht with ⟨h4, -⟩ | ⟨hs, -⟩
      · rw [h4, hdate]; rfl
      · rw [hn] at hs; cases hs
    obtain ⟨u, hu, hworks⟩ := Device.enterTrain_worksOn h hm hn
    dsimp only
    rw [if_pos hbyte, hu]
    exact ⟨u, _, hworks, rfl⟩

/-- A new report carried out: the entry, and the board after its notice (R60 to R64, R158). -/
theorem Device.runReport_noticed {d u : Device} {n point event second time : Nat} {e : Entry} {ev : RunEvent}
    (hu : d.WorksOn n e u) (hev : RunEvent.ofCode event = some ev) (hsec : second ≤ 86399)
    (hj : e.judge d.halt.ownPoint point ev ≠ .touchOnly) :
    ∃ e', (u.runReport n point event second time).entry? n = some e' ∧
      BoardNoticed n (e'.state = .departed ∨ e'.state = .passed) u (u.runReport n point event second time) := by
  obtain ⟨x, hx, hcore⟩ := hu.entry
  have hxn := Device.train_of_entry? hx
  have hjudge : ({ x with touched := true } : Entry).judge u.halt.ownPoint point ev ≠ .touchOnly := by
    have := Entry.judge_of_core hcore d.halt.ownPoint
    rw [hu.halt]
    exact fun h => hj ((congrFun (congrFun this point) ev).symm.trans h)
  have htrain : ∀ (x : Entry) j t, (x.report j t ev).train = x.train := fun x j t => by
    unfold Entry.report Entry.moveTo
    cases j <;> dsimp only <;> split <;> rfl
  generalize hy : ({ x with touched := true } : Entry).report
    (({ x with touched := true } : Entry).judge u.halt.ownPoint point ev) (clampReport time) ev = y
  have hyn : y.train = n := by rw [← hy, htrain]; exact hxn
  have heq : u.runReport n point event second time =
      (u.acted n y).deliver (reportNotice { x with touched := true } y) := by
    unfold Device.runReport
    rw [Device.touch_entry? hx, hev]
    dsimp only
    rw [if_neg (not_or.2 ⟨by omega, hjudge⟩), hy]
    rfl
  rw [heq]
  obtain ⟨e', he', halike⟩ := Device.acted_entry? hu.sound hx hyn (reportNotice { x with touched := true } y)
  refine ⟨e', he', Device.acted_noticed hu.sound hyn hxn nofun nofun ?_⟩
  rw [halike.state]
  exact ⟨fun h => h.elim nofun And.right, fun h => .inr ⟨rfl, h⟩⟩

/-! ## SERVICE frames (R65 to R68) -/

/-- What an action that is more than a touch does: a move to or from CANCELLED, or a new platform (R66 to R68). -/
theorem Entry.service_cases {e y : Entry} {a : ServiceAction} {cause : NoticeCause} (h : e.service a = some (y, cause)) :
    ((cause = .cancel ∨ cause = .reinstate) ∧ y.train = e.train ∧ y.held = e.held ∧
        (y.state ≠ e.state ∨ y.beforeCancel ≠ e.beforeCancel)) ∨
      ∃ c new, e.held = some c ∧ new ≠ c.call.platform ∧ y = { e with held := some (c.onPlatform new) } ∧
        cause = .platform c.call.platform new := by
  unfold Entry.service at h
  split at h
  · left
    split at h
    case h_5 | h_6 | h_7 => cases h
    all_goals
      next hs =>
        cases h
        exact ⟨.inl rfl, rfl, rfl, .inl (by rw [hs]; nofun)⟩
  · split at h
    · next hs hb =>
      cases h
      exact .inl ⟨.inr rfl, rfl, rfl, .inr (by rw [hb]; nofun)⟩
    · cases h
  · split at h
    · cases h
    · next c hc =>
      split at h
      · cases h
      · next hno =>
        cases h
        refine .inr ⟨c, _, hc, fun hnew => hno (.inr (.inr (.inr (.inr hnew)))), rfl, rfl⟩

/-- What a SERVICE frame leaves of the board, with the train's entry made into `e'` (R65 to R68, R158). -/
structure ServiceNoticed (n : Nat) (e e' : Entry) (u t : Device) : Prop where
  touch : e'.core = { e.core with touched := true } → t.board = u.board
  moved : e'.state ≠ e.state → BoardNoticed n False u t
  platform : ∀ h h', e.held = some h → e'.held = some h' → h'.call.platform ≠ h.call.platform →
    PlatformNoticed n h.call.platform h'.call.platform u t

/-- A touch leaves the board. -/
theorem ServiceNoticed.of_touch {n : Nat} {e x : Entry} {u t : Device} (hcore : x.core = e.core) (hb : t.board = u.board) :
    ServiceNoticed n e { x with touched := true } u t := by
  have halike := Entry.Alike.of_core hcore
  refine ⟨fun _ => hb, fun h => absurd halike.state h, fun c c' hc hc' hne => ?_⟩
  have : c' = c := Option.some_inj.1 (hc'.symm.trans (halike.held.trans hc))
  exact absurd (by rw [this]) hne

/-- An action carried out: the entry, and the board after its notice. -/
theorem Device.serviceAct_noticed {d u : Device} {n : Nat} {e : Entry} (hu : d.WorksOn n e u) (a : ServiceAction) :
    ∃ e', ((u.touch n).serviceAct n a).entry? n = some e' ∧ ServiceNoticed n e e' u ((u.touch n).serviceAct n a) := by
  obtain ⟨x, hx, hcore⟩ := hu.entry
  have hxn : x.train = n := Device.train_of_entry? hx
  have hxe := Entry.Alike.of_core hcore
  have htouched := Device.touch_entry? hx
  unfold Device.serviceAct
  rw [htouched, Option.bind_some]
  cases hact : ({ x with touched := true } : Entry).service a with
  | none => exact ⟨_, htouched, .of_touch hcore rfl⟩
  | some r =>
    obtain ⟨y, cause⟩ := r
    have hyn : y.train = n := by
      rcases Entry.service_cases hact with ⟨-, h, -⟩ | ⟨c, new, -, -, rfl, -⟩
      · exact h.trans hxn
      · exact hxn
    obtain ⟨e', he', halike⟩ := Device.acted_entry? hu.sound hx hyn (serviceNotice { x with touched := true } y cause)
    refine ⟨e', he', ?_⟩
    have hsame : e'.core = { e.core with touched := true } → x.Alike y := fun htouch => by
      have h := Entry.Alike.of_core (x := { e with touched := true }) htouch
      exact ⟨halike.train.symm.trans (h.train.trans hxe.train.symm), halike.date.symm.trans (h.date.trans hxe.date.symm),
        halike.held.symm.trans (h.held.trans hxe.held.symm), halike.state.symm.trans (h.state.trans hxe.state.symm),
        halike.beforeCancel.symm.trans (h.beforeCancel.trans hxe.beforeCancel.symm)⟩
    rcases Entry.service_cases hact with ⟨hcause, -, hheld, hmoved⟩ | ⟨c, new, hc, hnew, rfl, rfl⟩
    · refine ⟨fun htouch => ?_, fun _ => ?_, fun c c' hc hc' hne => ?_⟩
      · exact (hmoved.elim (fun h => h (hsame htouch).state) fun h => h (hsame htouch).beforeCancel).elim
      · rcases hcause with rfl | rfl
        all_goals
          exact Device.acted_noticed hu.sound hyn hxn nofun nofun ⟨fun h => h.elim nofun fun h => (nomatch h.1), False.elim⟩
      · have : c' = c := Option.some_inj.1 (hc'.symm.trans (halike.held.trans (hheld.trans (hxe.held.trans hc))))
        exact absurd (by rw [this]) hne
    · refine ⟨fun htouch => ?_, fun hs => absurd (halike.state.trans hxe.state) hs, fun c0 c' hc0 hc' _ => ?_⟩
      · have hheld := (hsame htouch).held.trans hc
        exact absurd (congrArg (fun x : HeldCall => x.call.platform) (Option.some_inj.1 hheld)) hnew
      · obtain rfl : c0 = c := Option.some_inj.1 (hc0.symm.trans (hxe.held.symm.trans hc))
        obtain rfl : c' = c0.onPlatform new := Option.some_inj.1 (hc'.symm.trans halike.held)
        exact Device.acted_platformNoticed hu.sound hyn hxn rfl

theorem Device.serviceFrame_noticed {d : Device} (h : d.ListsSound) {n : Nat} {e : Entry} (hm : d.Meets n e) (data : List Byte) :
    ∃ e', (d.serviceFrame n data).entry? n = some e' ∧
      ServiceNoticed n e e' (d.ensureEntry n) (d.serviceFrame n data) := by
  have hworks := Device.ensureEntry_worksOn h hm
  unfold Device.serviceFrame
  cases ServiceAction.ofData data with
  | some a => exact Device.serviceAct_noticed hworks a
  | none =>
    obtain ⟨x, hx, hcore⟩ := hworks.entry
    exact ⟨_, Device.touch_entry? hx, .of_touch hcore rfl⟩

/-! ## Frames that are heard (R36, R39) -/

/-- A frame that is heard is dispatched, with the last hit written. -/
theorem Device.Hears.lineEvent {d : Device} {f : LineFrame} (h : d.Hears f) :
    d.lineEvent f = (d.setLastHit (d.line.hitOf f.ident)).dispatch f := by
  obtain ⟨hrun, haccept, hup⟩ := h
  unfold Device.lineEvent Device.when Device.running Device.arrival Device.returnLine
  rw [if_pos (by rw [hrun]; rfl), if_pos haccept]
  exact if_pos hup

/-- The last hit is no matter to the entering of a train. -/
theorem Device.EntersAs.of_setLine {d u : Device} {l : Line} {n : Nat} {e : Entry} (h : (d.setLine l).EntersAs n e u) :
    ∃ u', d.EntersAs n e u' ∧ u'.board = u.board := by
  rcases h with ⟨hn, rfl⟩ | ⟨hn, hx, w, hw, hothers, hu, hnoticed⟩
  · exact ⟨d, .inl ⟨hn, rfl⟩, rfl⟩
  · refine ⟨{ u with line := d.line }, .inr ⟨hn, hx, { w with line := d.line }, ?_, hothers, ?_, ?_⟩, rfl⟩
    · rcases hw with ⟨hlt, rfl⟩ | ⟨v, hv, hr⟩
      · exact .inl ⟨hlt, rfl⟩
      · refine .inr ⟨v, hv, ?_, hr.finished, hr.lists, hr.pages, hr.still⟩
        have hline := congrArg (fun x : Device => { x with line := d.line }) hr.frame
        exact hline
    · exact congrArg (fun x : Device => { x with line := d.line }) hu
    · exact ⟨hnoticed.frame, hnoticed.lists, hnoticed.pages, hnoticed.still⟩

theorem trainOk_iff {t : Nat} : trainOk t = true ↔ 1 ≤ t ∧ t ≤ 9999 := by simp [trainOk]

/-- A RUN frame of a train number in range, long enough, is taken (R39). -/
theorem Device.dispatch_run {d : Device} {train : BitVec 14} {point : BitVec 11} {data : List Byte}
    (hn : 1 ≤ train.toNat ∧ train.toNat ≤ 9999) (hl : 5 ≤ data.length) :
    d.dispatch { kind := 1, train := train, point := point, data := data } = d.runFrame train.toNat point.toNat data := by
  have hguard : (trainOk train.toNat && decide (5 ≤ data.length)) = true := by
    rw [Bool.and_eq_true, trainOk_iff, decide_eq_true_iff]
    exact ⟨hn, hl⟩
  exact if_pos hguard

/-- A SERVICE frame of a train number in range is taken; of fewer than two data bytes it may be (R39, R65, log 5). -/
theorem Device.dispatch_service {d : Device} {train : BitVec 14} {point : BitVec 11} {data : List Byte}
    (hn : 1 ≤ train.toNat ∧ train.toNat ≤ 9999) (hl : data.length < 2 → Config.shortServiceTaken = true) :
    d.dispatch { kind := 2, train := train, point := point, data := data } = d.serviceFrame train.toNat data := by
  have hguard : (trainOk train.toNat && (decide (2 ≤ data.length) || Config.shortServiceTaken)) = true := by
    rw [Bool.and_eq_true, trainOk_iff, Bool.or_eq_true, decide_eq_true_iff]
    exact ⟨hn, (Nat.lt_or_ge data.length 2).elim (fun h => .inr (hl h)) .inl⟩
  exact if_pos hguard

/-- The last hit is no matter to what the lists rest on. -/
theorem Device.ListsSound.setLastHit {d : Device} (h : d.ListsSound) (k : Option Nat) : (d.setLastHit k).ListsSound :=
  ⟨h.oneEach, h.banks, h.length, h.once⟩

/-- The lists and the pages after a RUN frame that is a new report (R55, R64, R158). -/
theorem runFrame_lists {s : State} {train : BitVec 14} {point : BitVec 11} {data : List Byte} {e : Entry} {ev : RunEvent}
    {time : Nat} (h : s.dev.NewReport train point data e ev time) (hs : s.dev.ListsSound) :
    ∃ t e' u, exec (.runFrame train point data) s = .next t ∧ t.dev.entry? train.toNat = some e' ∧
      s.dev.EntersAs train.toNat e u ∧ BoardNoticed train.toNat (e'.state = .departed ∨ e'.state = .passed) u t.dev := by
  obtain ⟨u, x, hu, heq⟩ := Device.runFrame_eq (hs.setLastHit (s.dev.line.hitOf
    { kind := 1, train := train, point := point, data := data : LineFrame }.ident)) (point := point.toNat) h.entry h.timed
  obtain ⟨e', he', hnoticed⟩ := Device.runReport_noticed hu (time := x) h.event h.sized.2 h.judge
  obtain ⟨u', henters, hboard⟩ := Device.EntersAs.of_setLine hu.enters
  have hline := h.heard.lineEvent.trans ((Device.dispatch_run h.number h.sized.1).trans heq)
  exact ⟨_, e', u', rfl, (congrArg (fun d : Device => d.entry? train.toNat) hline).trans he', henters,
    hline ▸ hnoticed.of_board hboard .rfl⟩

/-- Each SERVICE row is the arrival of its frame (R65 to R68). -/
theorem Device.ServiceTaken.exec_eq {s : State} {i : Instr} {train : BitVec 14} {point : BitVec 11} {data : List Byte} {e : Entry}
    (h : s.dev.ServiceTaken i train point data e) :
    exec i s = s.run (Device.lineEvent { kind := 2, train := train, point := point, data := data }) := by
  rcases h.row with ⟨b, rest, rfl, rfl⟩ | ⟨b, rest, rfl, rfl⟩ | ⟨b, rest, rfl, rfl⟩ | ⟨rfl, -⟩ <;> rfl

/-- The lists and the pages after a SERVICE frame (R55, R65 to R68, R158). -/
theorem serviceFrame_lists {s : State} {i : Instr} {train : BitVec 14} {point : BitVec 11} {data : List Byte} {e : Entry}
    (h : s.dev.ServiceTaken i train point data e) (hs : s.dev.ListsSound) :
    ∃ t e' u, exec i s = .next t ∧ t.dev.entry? train.toNat = some e' ∧ s.dev.EntersAs train.toNat e u ∧
      ServiceNoticed train.toNat e e' u t.dev := by
  have hd := hs.setLastHit (s.dev.line.hitOf { kind := 2, train := train, point := point, data := data : LineFrame }.ident)
  have hm : (s.dev.setLastHit (s.dev.line.hitOf
    { kind := 2, train := train, point := point, data := data : LineFrame }.ident)).Meets train.toNat e := h.entry
  obtain ⟨e', he', hnoticed⟩ := Device.serviceFrame_noticed hd hm data
  obtain ⟨u', henters, hboard⟩ := Device.EntersAs.of_setLine (Device.ensureEntry_worksOn hd hm).enters
  have hline := h.heard.lineEvent.trans (Device.dispatch_service h.number h.sized)
  refine ⟨_, e', u', h.exec_eq, (congrArg (fun d : Device => d.entry? train.toNat) hline).trans he', henters, ?_⟩
  dsimp only
  rw [hline]
  exact ⟨fun htouch => (hnoticed.touch htouch).trans hboard.symm, fun hmoved => (hnoticed.moved hmoved).of_board hboard .rfl,
    fun c c' hc hc' hne => (hnoticed.platform c c' hc hc' hne).of_board hboard⟩

end Sys2Proof.Machine

/-! # The sweep and the lists -/

namespace Sys2Proof.Machine

/-! ## Who is removed (R71) -/

theorem permute_map {α β : Type} (f : α → β) (k : Nat) (l : List α) : permute k (l.map f) = (permute k l).map f := by
  induction l generalizing k with
  | nil => cases k <;> rfl
  | cons x xs ih =>
    simp only [List.map_cons, permute, List.length_map, ih, List.map_append, List.map_take, List.map_drop]

/-- The sweep's rows (R71). -/
theorem Entry.swept_iff {n : Int} {e : Entry} : e.swept n = true ↔ e.RemovedAt n := by
  have hlimit : ∀ o : Option Nat, (((o.map (fun a => a + 3600) : Option Nat) : Option Int).any (fun l => decide (l < n))) = true ↔
      ∃ a, o = some a ∧ (a : Int) + 3600 < n := fun o => by cases o <;> simp
  unfold Entry.swept Entry.RemovedAt Entry.sweepLimit
  cases e.state with
  | departed | passed => simp
  | atHalt => cases e.held <;> exact hlimit _
  | cancelled | expected => cases e.held <;> simp
  | running | approaching =>
    cases e.held with
    | none => simp
    | some h =>
      dsimp only
      by_cases ho : e.overdue = true
      · rw [if_pos ho, if_pos ho]; exact hlimit _
      · rw [if_neg ho, if_neg ho]; simp

/-! ## Removals in turn (R71, R73) -/

/-- Entries of the table removed one after another leave the lists as the rules say, each on the part the one before it left. -/
theorem Device.removedInTurn_foldl {d : Device} (h : d.ListsSound) {order : List Entry} (hin : ∀ v ∈ order, v ∈ d.table.entries)
    (hnodup : (order.map Entry.train).Nodup) :
    RemovedInTurn order d (order.foldl (fun d v => d.removeTrain v.train) d) := by
  induction order generalizing d with
  | nil => rfl
  | cons v vs ih =>
    obtain ⟨hv, hvs⟩ := List.nodup_cons.1 hnodup
    obtain ⟨hremoved, hsound⟩ := Device.removeTrain_removed h (h.oneEach.entry?_eq_some.2 ⟨hin v List.mem_cons_self, rfl⟩)
    refine ⟨_, hremoved, ih hsound (fun w hw => ?_) hvs⟩
    rw [hremoved.frame]
    refine List.mem_filter.2 ⟨hin w (List.mem_cons_of_mem v hw), decide_eq_true fun heq => hv ?_⟩
    exact heq ▸ List.mem_map_of_mem hw

/-- The orders still left open are no matter to the removals. -/
theorem RemovedInTurn.of_sched {d e : Device} {k : Nat} {order : List Entry} (h : RemovedInTurn order { d with sched := k } e) :
    ∃ e', RemovedInTurn order d e' ∧ e'.board = e.board := by
  cases order with
  | nil =>
    have h : e = { d with sched := k } := h
    exact ⟨d, rfl, by rw [h]⟩
  | cons v vs =>
    obtain ⟨m, hm, hrest⟩ := h
    exact ⟨e, ⟨m, ⟨hm.frame, hm.finished, hm.lists, hm.pages, hm.still⟩, hrest⟩, rfl⟩

/-- A sweep removes the entries its rows name, in some order (R71, log 6). -/
theorem Device.sweep_removed {d : Device} (h : d.ListsSound) :
    ∃ (order : List Entry) (e : Device), order.Nodup ∧
      (∀ x, x ∈ order ↔ x ∈ d.table.entries ∧ x.RemovedAt (d.clockOn x)) ∧ RemovedInTurn order d e ∧ d.sweep.board = e.board := by
  have hmem : ∀ x, x ∈ permute d.sched (d.table.entries.filter (fun e => e.swept (d.entryTime e))) ↔
      x ∈ d.table.entries ∧ x.RemovedAt (d.clockOn x) := fun x => by
    rw [mem_permute, List.mem_filter, Entry.swept_iff]
    rfl
  have htrains : ((permute d.sched (d.table.entries.filter (fun e => e.swept (d.entryTime e)))).map Entry.train).Nodup :=
    (((permute_perm _ _).map _).nodup_iff).2 (h.oneEach.sublist (List.filter_sublist.map _))
  have hsched : ({ d with sched := d.sched / choices d.sweepVictims.length } : Device).ListsSound :=
    ⟨h.oneEach, h.banks, h.length, h.once⟩
  obtain ⟨e, he, hboard⟩ := RemovedInTurn.of_sched
    (Device.removedInTurn_foldl hsched (fun v hv => ((hmem v).1 hv).1) htrains)
  refine ⟨_, e, htrains.of_map, hmem, he, ?_⟩
  have hrun : d.forAll d.sweepVictims Device.removeTrain =
      (permute d.sched (d.table.entries.filter (fun e => e.swept (d.entryTime e)))).foldl (fun d v => d.removeTrain v.train)
        { d with sched := d.sched / choices d.sweepVictims.length } := by
    have hvictims : permute d.sched d.sweepVictims =
        (permute d.sched (d.table.entries.filter (fun e => e.swept (d.entryTime e)))).map Entry.train := permute_map _ _ _
    unfold Device.forAll Device.shuffle
    dsimp only
    rw [hvictims, List.foldl_map]
  rw [hboard, ← hrun]
  unfold Device.sweep Device.when
  split <;> rfl

/-- Settles O50: rebuilt lists are the sorted candidates cut to the share, a day list names a train once, and each entry notice is
followed through its five receivers, of which the board alone writes the lists. -/
theorem dayAndDepartureListsAreInOrder : Obligations.DayAndDepartureListsAreInOrder := by
  unfold Obligations.DayAndDepartureListsAreInOrder
  refine ⟨fun d g htable htt _ _ => ?_, fun tt x htt => ⟨TimetableStore.dayList_nodup htt x, fun t h => ?_⟩,
    fun s train point data e ev time hnew hsound => runFrame_lists hnew hsound.listsSound,
    fun s i train point data e htaken hsound => ?_, fun s n hrun hdue hsound => ?_⟩
  · obtain ⟨hlength, hsorted, hcand, hout⟩ := Device.rebuilt_spec htable.oneEach htt g
    exact ⟨hlength, hsorted, hcand, hout, fun n k mask hn hk hm => Board.share_eq hn hk hm⟩
  · exact TimetableStore.lookup_eq_some htt
  · obtain ⟨t, e', u, hexec, he', henters, hnoticed⟩ := serviceFrame_lists htaken hsound.listsSound
    exact ⟨t, e', u, hexec, he', henters, hnoticed.touch, hnoticed.moved, hnoticed.platform⟩
  · have hl := hsound.listsSound
    obtain ⟨order, e, hnodup, hmem, hremoved, hboard⟩ := Device.sweep_removed
      (d := { s.dev with clock := { s.dev.clock with dueSweep := n } }) ⟨hl.oneEach, hl.banks, hl.length, hl.once⟩
    have hexec : exec .sweepTick s =
        .next { s with dev := ({ s.dev with clock := { s.dev.clock with dueSweep := n } } : Device).sweep } := by
      have hsweep : s.dev.sweepTick = ({ s.dev with clock := { s.dev.clock with dueSweep := n } } : Device).sweep := by
        unfold Device.sweepTick
        rw [hdue]
        rfl
      have hrunning : s.dev.running = true := by unfold Device.running; rw [hrun]; rfl
      exact congrArg (fun d => Host.Outcome.next { s with dev := d }) ((if_pos hrunning).trans hsweep)
    exact ⟨_, order, e, hexec, hnodup, hmem, hremoved, hboard⟩

end Sys2Proof.Machine

/-! # Entry notices and the entry of their train -/

namespace Sys2Proof.Machine

/-! ## Writing the entry of a train (R52) -/

/-- An entry with the stop state given (R93). -/
def Entry.withStop (e : Entry) (s : StopState) : Entry := { e with stop := s }

@[simp] theorem Entry.withStop_self (e : Entry) : e.withStop e.stop = e := rfl

@[simp] theorem Entry.withStop_stop (e : Entry) (s : StopState) : (e.withStop s).stop = s := rfl

/-- From `d` to `e` the entry of train `t` is written by `g`; the trains held and the entries found of the others stay. -/
structure Device.Writes (t : Nat) (g : Entry → Entry) (d e : Device) : Prop where
  trains : e.table.entries.map Entry.train = d.table.entries.map Entry.train
  full : e.table.full = d.table.full
  mine : e.entry? t = (d.entry? t).map g
  others : ∀ m, m ≠ t → e.entry? m = d.entry? m

namespace Device.Writes

variable {t : Nat} {g g' : Entry → Entry} {d e f : Device}

theorem of_table (h : e.table = d.table) : d.Writes t id e := by
  refine ⟨by rw [h], by rw [h], ?_, fun m _ => ?_⟩ <;> unfold Device.entry? <;> rw [h]
  exact Option.map_id'.symm

theorem trans (h1 : d.Writes t g e) (h2 : e.Writes t g' f) : d.Writes t (g' ∘ g) f where
  trains := h2.trains.trans h1.trains
  full := h2.full.trans h1.full
  mine := by rw [h2.mine, h1.mine, Option.map_map]
  others := fun m hm => (h2.others m hm).trans (h1.others m hm)

/-- How other entries would be written is no matter. -/
theorem congr (h : d.Writes t g e) (hg : ∀ x, d.entry? t = some x → g x = g' x) : d.Writes t g' e :=
  { h with mine := h.mine.trans (Option.map_congr hg) }

/-- An entry of the train written to be the one given. -/
theorem updateEntry (d : Device) (hg : ∀ x, x.train = t → (g x).train = t) : d.Writes t g (d.updateEntry t g) where
  trains := by
    unfold Device.updateEntry
    rw [List.map_map]
    refine List.map_congr_left fun x _ => ?_
    by_cases hx : x.train = t
    · simp [hx, hg x hx]
    · simp [hx]
  full := rfl
  mine := Device.updateEntry_entry? hg
  others := fun m hm => by
    unfold Device.entry? Device.updateEntry
    rw [List.find?_map]
    have hcomp : ((fun e : Entry => e.train == m) ∘ fun e => if e.train == t then g e else e) = fun e => e.train == m := by
      funext x
      by_cases hx : x.train = t
      · simp [hx, hg x hx]
      · simp [hx]
    rw [hcomp]
    cases hx : d.table.entries.find? (fun e => e.train == m) with
    | none => rfl
    | some x =>
      have hxm : x.train = m := beq_iff_eq.1 (List.find?_some (p := fun e : Entry => e.train == m) hx)
      simp [hxm, hm]

/-- The entry of the train made into the one given. -/
theorem replace {x y : Entry} (hx : d.entry? t = some x) (hy : y.train = t) (hg : g x = y) :
    d.Writes t g (d.updateEntry t (fun _ => y)) :=
  (updateEntry d fun _ _ => hy).congr fun z hz => by rw [← hg, Option.some_inj.1 (hz.symm.trans hx)]

theorem oneEach (h : d.Writes t g e) (hd : d.table.OneEach) : e.table.OneEach := by
  unfold RunningTable.OneEach
  rwa [h.trains]

end Device.Writes

/-! ## What a receiver of a notice does with the entry and the Cue Queue (R64, R173) -/

/-- From `d` to `e` a receiver has written the entry of train `t` by `g` and offered the cues `cs` of that entry; flags stand. -/
structure Device.Takes (t : Nat) (g : Entry → Entry) (cs : Entry → List Cue) (d e : Device) : Prop where
  writes : d.Writes t g e
  clock : e.clock = d.clock
  halt : e.halt = d.halt
  flags : d.FlagsKept e
  cues : e.cues = ((d.entry? t).elim [] cs).foldl offerTo d.cues
  told : d.cues = [] → (d.entry? t).elim [] cs ≠ [] → e.hasFlag .cuePending = true

theorem Device.FlagsKept.guarded {d : Device} {f : Device → Device} (c : Bool) (h : d.FlagsKept (f d)) :
    d.FlagsKept (d.when c f) := by
  unfold Device.when
  split
  · exact h
  · exact fun _ h => h

theorem Device.FlagsKept.recomposeFor (d : Device) (t : Nat) : d.FlagsKept (d.recomposeFor t) :=
  .guarded _ (Device.PageStep.recompose d).flags

theorem Device.FlagsKept.refreshLamps (d : Device) (t : Nat) : d.FlagsKept (d.refreshLamps t) := .of_ports rfl

theorem Device.FlagsKept.stopNotice (d : Device) (t : Nat) (before after : StopState) (watch : Bool) :
    d.FlagsKept (d.stopNotice t before after watch) := by
  unfold Device.stopNotice
  exact ((FlagsKept.setFlagIf _ _ _).trans (.refreshLamps _ _)).trans (.recomposeFor _ _)

namespace Device.Takes

variable {t : Nat} {g g' : Entry → Entry} {cs cs' : Entry → List Cue} {d e f : Device}

/-- What leaves the entries and the cues alone. -/
theorem quiet (ht : e.table = d.table) (hc : e.clock = d.clock) (hh : e.halt = d.halt) (hq : e.cues = d.cues)
    (hf : d.FlagsKept e) : d.Takes t id (fun _ => []) e where
  writes := .of_table ht
  clock := hc
  halt := hh
  flags := hf
  cues := by rw [hq]; cases d.entry? t <;> rfl
  told := fun _ h => absurd (by cases d.entry? t <;> rfl) h

theorem refl (t : Nat) (d : Device) : d.Takes t id (fun _ => []) d := quiet rfl rfl rfl rfl fun _ h => h

theorem trans (h1 : d.Takes t g cs e) (h2 : e.Takes t g' cs' f) :
    d.Takes t (g' ∘ g) (fun x => cs x ++ cs' (g x)) f where
  writes := h1.writes.trans h2.writes
  clock := h2.clock.trans h1.clock
  halt := h2.halt.trans h1.halt
  flags := h1.flags.trans h2.flags
  cues := by
    rw [h2.cues, h1.cues, h1.writes.mine]
    cases d.entry? t with
    | none => rfl
    | some x => exact (List.foldl_append).symm
  told := fun hd hne => by
    have h2c := h2.told
    rw [h1.cues, h1.writes.mine] at h2c
    cases hx : d.entry? t with
    | none => rw [hx] at hne; exact absurd rfl hne
    | some x =>
      rw [hx] at hne h2c
      by_cases hcs : cs x = []
      · exact h2c (by simpa [hcs] using hd) (by simpa [hcs] using hne)
      · exact h2.flags _ (h1.told hd (by rw [hx]; exact hcs))

theorem congr (h : d.Takes t g cs e) (hg : ∀ x, d.entry? t = some x → g x = g' x ∧ cs x = cs' x) : d.Takes t g' cs' e := by
  have helim : (d.entry? t).elim [] cs = (d.entry? t).elim [] cs' := by
    cases hx : d.entry? t with
    | none => rfl
    | some x => exact (hg x hx).2
  exact { h with
    writes := h.writes.congr fun x hx => (hg x hx).1
    cues := helim ▸ h.cues
    told := helim ▸ h.told }

/-- An act that the entry at hand calls for or not. -/
theorem guarded {a : Device → Device} {c : Bool} (h : c = true → d.Takes t g cs (a d))
    (hno : c = false → ∀ x, d.entry? t = some x → g x = x ∧ cs x = []) : d.Takes t g cs (d.when c a) := by
  unfold Device.when
  split
  · next hc => exact h hc
  · next hc =>
    exact (refl t d).congr fun x hx => (hno (Bool.eq_false_iff.2 hc) x hx).imp Eq.symm Eq.symm

/-- An act that may be left out, whatever calls for it. -/
theorem guarded_quiet {a : Device → Device} (c : Bool) (h : d.Takes t id (fun _ => []) (a d)) :
    d.Takes t id (fun _ => []) (d.when c a) :=
  guarded (fun _ => h) fun _ _ _ => ⟨rfl, rfl⟩

theorem setLine (t : Nat) (d : Device) (l : Line) : d.Takes t id (fun _ => []) (d.setLine l) :=
  quiet rfl rfl rfl rfl (.of_ports rfl)

theorem selection (t : Nat) (d : Device) : d.Takes t id (fun _ => []) d.selection := setLine t d _

theorem refreshLamps (t n : Nat) (d : Device) : d.Takes t id (fun _ => []) (d.refreshLamps n) :=
  quiet rfl rfl rfl rfl (.of_ports rfl)

theorem withdrawFrame (t n : Nat) (d : Device) : d.Takes t id (fun _ => []) (d.withdrawFrame n) :=
  (setLine t d _).trans (guarded_quiet _ (selection t _))

theorem selectIfEligible (t n : Nat) (d : Device) : d.Takes t id (fun _ => []) (d.selectIfEligible n) :=
  guarded_quiet _ (selection t d)

/-- A cue offered for an entry that is held (R173, R174). -/
theorem offerCue {x : Entry} (hx : d.entry? t = some x) (c : Cue) : d.Takes t id (fun _ => [c]) (d.offerCue c) where
  writes := .of_table rfl
  clock := rfl
  halt := rfl
  flags := (FlagsKept.of_ports (by rfl)).trans (.setFlagIf _ _ _)
  cues := by rw [hx]; rfl
  told := fun hd _ => by
    unfold Device.offerCue
    rw [hd]
    exact Device.hasFlag_setFlag _ _

/-- A stop state given to the train's entry (R93). -/
theorem setStop (t : Nat) (d : Device) (s : StopState) :
    d.Takes t (fun x => x.withStop s) (fun _ => []) (d.setStop t s) := by
  unfold Device.setStop
  cases hx : d.entry? t with
  | none => exact (refl t d).congr fun x h => by rw [hx] at h; cases h
  | some x =>
    dsimp only
    by_cases hs : x.stop = s
    · rw [if_pos hs]
      refine (refl t d).congr fun y hy => ⟨?_, rfl⟩
      obtain rfl := Option.some_inj.1 (hx.symm.trans hy)
      rw [← hs]; rfl
    · rw [if_neg hs]
      have hup : d.Takes t (fun x => x.withStop s) (fun _ => []) (d.updateEntry t fun x => { x with stop := s }) :=
        { writes := .updateEntry d fun _ h => h, clock := rfl, halt := rfl, flags := .of_ports rfl
          cues := by cases d.entry? t <;> rfl
          told := fun _ h => absurd (by cases d.entry? t <;> rfl) h }
      refine (hup.trans (quiet ?_ ?_ ?_ ?_ ?_)).congr fun _ _ => ⟨rfl, rfl⟩
      iterate 4 simp only [Device.stopNotice_frame]
      exact .stopNotice _ _ _ _ _

end Device.Takes

end Sys2Proof.Machine

/-! # What the receivers of a notice make of the entry -/

namespace Sys2Proof.Machine

/-! ## The Forecast Unit (R76, R86) -/

/-- The entry after the recompute of its train, where it is in scope (R76). -/
def Device.recomputedEntry (d : Device) (tick : Bool) (e : Entry) : Entry :=
  if e.inScope d.clock.state then (d.recomputeResult tick e).1 else e

/-- The cue that a recompute hands on (R86). -/
def Device.delayedCues (d : Device) (tick : Bool) (e : Entry) : List Cue :=
  if e.inScope d.clock.state && (d.recomputeResult tick e).2 then [d.cueAbout .delayed e 1] else []

/-- A recompute keeps what is not of the forecast. -/
theorem Device.recomputedEntry_core (d : Device) (tick : Bool) (e : Entry) : (d.recomputedEntry tick e).core = e.core := by
  unfold Device.recomputedEntry
  split
  · exact Entry.recompute_core _ _ _ _ _
  · rfl

theorem Device.recomputeResult_train (d : Device) (tick : Bool) (e : Entry) : (d.recomputeResult tick e).1.train = e.train :=
  (Entry.Alike.of_core (Entry.recompute_core _ _ _ _ e)).train

/-- A recompute of a train writes its entry and may offer one cue (R76, R86, R87). -/
theorem Device.recomputeTrain_takes (d : Device) (tick : Bool) (t : Nat) :
    d.Takes t (d.recomputedEntry tick) (d.delayedCues tick) (d.recomputeTrain tick t) := by
  unfold Device.recomputeTrain
  cases hx : d.entry? t with
  | none => exact (Takes.refl t d).congr fun x h => by rw [hx] at h; cases h
  | some x =>
    have hxt := Device.train_of_entry? hx
    dsimp only
    by_cases hs : x.inScope d.clock.state = true
    · rw [if_pos hs]
      obtain ⟨y, due⟩ : ∃ y, y = (d.recomputeResult tick x).1 := ⟨_, rfl⟩
      have hy : d.recomputedEntry tick x = y := by unfold Device.recomputedEntry; rw [if_pos hs, due]
      have hyt : y.train = t := by rw [due, Device.recomputeResult_train, hxt]
      rw [← due]
      have hwrite : d.Takes t (d.recomputedEntry tick) (fun _ => []) (d.updateEntry t fun _ => y) :=
        { writes := .replace hx hyt hy, clock := rfl, halt := rfl, flags := .of_ports rfl
          cues := by rw [hx]; rfl
          told := fun _ h => absurd (by rw [hx]; rfl) h }
      have hfind : (d.updateEntry t fun _ => y).entry? t = some y := by rw [hwrite.writes.mine, hx, ← hy]; rfl
      have hcue : (d.updateEntry t fun _ => y).Takes t id (fun _ => d.delayedCues tick x)
          ((d.updateEntry t fun _ => y).when (d.recomputeResult tick x).2 (Device.trainCue .delayed t x.platform 1)) := by
        have hcues : d.delayedCues tick x = if (d.recomputeResult tick x).2 then [d.cueAbout .delayed x 1] else [] := by
          unfold Device.delayedCues; rw [hs, Bool.true_and]
        refine Takes.guarded (fun hc => ?_) fun hc z _ => ⟨rfl, by rw [hcues, hc]; rfl⟩
        rw [hcues, if_pos hc]
        subst hxt
        exact Takes.offerCue hfind _
      refine ((hwrite.trans hcue).trans (Takes.guarded_quiet _ (.quiet ?_ ?_ ?_ ?_ (.recomposeFor _ _)))).congr fun z hz => ?_
      iterate 4 simp only [Device.recomposeFor_frame]
      obtain rfl := Option.some_inj.1 (hx.symm.trans hz)
      exact ⟨rfl, by simp⟩
    · rw [if_neg hs]
      refine (Takes.refl t d).congr fun y hy => ?_
      obtain rfl := Option.some_inj.1 (hx.symm.trans hy)
      exact ⟨by unfold Device.recomputedEntry; rw [if_neg hs]; rfl, by unfold Device.delayedCues; simp [hs]⟩

/-- Whether the Forecast Unit recomputes at a notice of the cause (R76). -/
def NoticeCause.recomputes : NoticeCause → Bool
  | .entered | .report | .reinstate => true
  | .cancel | .platform _ _ | .removed => false

/-- The entry after the Forecast Unit has taken a notice (R76). -/
def Device.forecasted (d : Device) (n : EntryNotice) (e : Entry) : Entry :=
  if n.cause.recomputes then d.recomputedEntry false e else e

/-- The cues of the Forecast Unit at a notice (R86). -/
def Device.forecastCues (d : Device) (n : EntryNotice) (e : Entry) : List Cue :=
  if n.cause.recomputes then d.delayedCues false e else []

theorem Device.forecastNotice_takes (d : Device) (n : EntryNotice) :
    d.Takes n.train (d.forecasted n) (d.forecastCues n) (d.forecastNotice n) := by
  unfold Device.forecastNotice Device.forecasted Device.forecastCues
  cases n.cause with
  | entered | report | reinstate => exact d.recomputeTrain_takes false n.train
  | cancel | platform _ _ | removed => exact Takes.refl _ d

/-! ## The Stop Request Unit (R103, R105, R107) -/

/-- The stop state of an entry after the Stop Request Unit has taken a notice (R103, R105, R107). -/
def EntryNotice.stopAfter (n : EntryNotice) (e : Entry) : StopState :=
  match n.cause with
  | .report =>
    match e.held with
    | none => e.stop
    | some h =>
      if n.reachesCutoff h.call && e.stop.inProgress then .unconfirmed
      else if e.repeats n h.call then .pending else e.stop
  | .cancel => if e.stop.inProgress then .none else e.stop
  | .reinstate => if e.remade then .pending else e.stop
  | .entered | .platform _ _ | .removed => e.stop

/-- The cue of a request that its train may not meet (R105). -/
def Device.cutoffCues (d : Device) (n : EntryNotice) (e : Entry) : List Cue :=
  match n.cause with
  | .report =>
    match e.held with
    | none => []
    | some h =>
      if n.reachesCutoff h.call && e.stop.inProgress && n.indexAfter != some 7 then [d.cueAbout .mayNotStop e 2] else []
  | .cancel | .reinstate | .entered | .platform _ _ | .removed => []

/-- A repetition follows no cutoff (R103, R105). -/
theorem Entry.repeats_reachesCutoff {n : EntryNotice} {e : Entry} {c : CallRec} (h : e.repeats n c = true) :
    n.reachesCutoff c = false := by
  unfold Entry.repeats at h
  unfold EntryNotice.reachesCutoff
  simp only [Bool.and_eq_true] at h
  simp [h.1.1.2]

theorem Device.stopReport_takes {d : Device} {n : EntryNotice} (hn : n.cause = .report) :
    d.Takes n.train (fun e => e.withStop (n.stopAfter e)) (d.cutoffCues n) (d.stopReport n) := by
  unfold Device.stopReport EntryNotice.stopAfter Device.cutoffCues
  rw [hn]
  dsimp only
  cases hx : d.entry? n.train with
  | none => exact (Takes.refl _ d).congr fun x h => by rw [hx] at h; cases h
  | some x =>
    cases hh : x.held with
    | none =>
      rw [Option.bind_some, hh]
      refine (Takes.refl _ d).congr fun y hy => ?_
      obtain rfl := Option.some_inj.1 (hx.symm.trans hy)
      simp only [hh]
      exact ⟨rfl, trivial⟩
    | some h =>
      rw [Option.bind_some, hh]
      dsimp only [Option.map_some]
      have hcut : d.Takes n.train
          (fun e => e.withStop (if n.reachesCutoff h.call && x.stop.inProgress then .unconfirmed else e.stop))
          (fun _ => if n.reachesCutoff h.call && x.stop.inProgress && n.indexAfter != some 7 then [d.cueAbout .mayNotStop x 2] else [])
          (d.cutoffAt n x h.call) := by
        unfold Device.cutoffAt
        by_cases hc : (n.reachesCutoff h.call && x.stop.inProgress) = true
        · rw [if_pos hc]
          have hstop := (Takes.setStop n.train d .unconfirmed).trans (.withdrawFrame n.train n.train _)
          refine (hstop.trans (Takes.guarded (g := id) (cs := fun _ =>
            if n.indexAfter != some 7 then [d.cueAbout .mayNotStop x 2] else []) (fun hi => ?_) fun hi z _ => ⟨rfl, by rw [hi]; rfl⟩)).congr
              fun z _ => ?_
          · rw [if_pos hi]
            have hfind := hstop.writes.mine
            rw [hx] at hfind
            have hcue : d.cueAbout .mayNotStop x 2 = (fun e : Device => ({ kind := .mayNotStop, train := some n.train, platform := some h.call.platform, notice := none, priority := 2, second := e.now } : Cue)) ((d.setStop n.train .unconfirmed).withdrawFrame n.train) := by
              simp [Device.cueAbout, Device.train_of_entry? hx, hh, Device.now]
            rw [hcue]
            exact Takes.offerCue hfind _
          · simp [hc]
        · rw [if_neg hc]
          exact (Takes.refl _ d).congr fun z _ => ⟨by simp [hc], by simp [hc]⟩
      have hrepeat : ∀ e : Device, e.Takes n.train (fun z => z.withStop (if x.repeats n h.call then .pending else z.stop))
          (fun _ => []) (e.when (x.repeats n h.call) (Device.setStop n.train .pending)) := fun e =>
        Takes.guarded (fun hr => by simpa [hr] using Takes.setStop n.train e .pending) fun hr z _ => by simp [hr]
      refine ((hcut.trans (hrepeat _)).trans (Takes.guarded_quiet _ (.selectIfEligible _ _ _))).congr fun y hy => ?_
      obtain rfl := Option.some_inj.1 (hx.symm.trans hy)
      simp only [hh]
      refine ⟨congrArg x.withStop ?_, by simp⟩
      by_cases hr : x.repeats n h.call = true
      · simp [hr, Entry.repeats_reachesCutoff hr]
      · simp [hr]

theorem Device.stopUnitNotice_takes (d : Device) (n : EntryNotice) :
    d.Takes n.train (fun e => e.withStop (n.stopAfter e)) (d.cutoffCues n) (d.stopUnitNotice n) := by
  have stays : ∀ {e : Device}, d.Takes n.train id (fun _ => []) e → (∀ x, n.stopAfter x = x.stop) → d.cutoffCues n = (fun _ => []) →
      d.Takes n.train (fun e => e.withStop (n.stopAfter e)) (d.cutoffCues n) e := fun h hs hc => by
    rw [hc]
    exact h.congr fun x _ => ⟨by rw [hs]; rfl, rfl⟩
  -- the lamps are worked out last (R98)
  suffices hacts : ∀ {e : Device}, d.Takes n.train (fun e => e.withStop (n.stopAfter e)) (d.cutoffCues n) e →
      d.Takes n.train (fun e => e.withStop (n.stopAfter e)) (d.cutoffCues n) (e.refreshLamps n.train) by
    unfold Device.stopUnitNotice
    refine hacts ?_
    cases hn : n.cause with
    | report => exact Device.stopReport_takes hn
    | cancel =>
      dsimp only
      unfold Device.stopCancel
      refine ((Takes.guarded (g := fun e => e.withStop (n.stopAfter e)) (cs := fun _ => []) (fun hc => ?_) fun hc x hx => ?_).trans
        (.withdrawFrame _ _ _)).congr fun x _ => ⟨rfl, ?_⟩
      · refine (Takes.setStop n.train d .none).congr fun x hx => ⟨?_, rfl⟩
        rw [hx] at hc
        have hc : x.stop.inProgress = true := hc
        simp [EntryNotice.stopAfter, hn, hc]
      · rw [hx] at hc
        have hc : x.stop.inProgress = false := hc
        simp [EntryNotice.stopAfter, hn, hc]
      · simp [Device.cutoffCues, hn]
    | reinstate =>
      dsimp only
      unfold Device.stopReinstate
      have hcues : d.cutoffCues n = fun _ => [] := by funext; simp [Device.cutoffCues, hn]
      rw [hcues]
      refine Takes.guarded (fun hc => ?_) fun hc x hx => ?_
      · refine ((Takes.setStop n.train d .pending).trans (.selectIfEligible _ _ _)).congr fun x hx => ⟨?_, rfl⟩
        rw [hx] at hc
        have hc : x.remade = true := hc
        simp [EntryNotice.stopAfter, hn, hc]
      · rw [hx] at hc
        have hc : x.remade = false := hc
        simp [EntryNotice.stopAfter, hn, hc]
    | removed =>
      have hforget : d.Takes n.train id (fun _ => [])
          { d with sru := { up := d.sru.up.forget n.train, down := d.sru.down.forget n.train } } :=
        .quiet rfl rfl rfl rfl (.of_ports rfl)
      refine stays (hforget.trans (.withdrawFrame _ _ _)) (fun x => ?_) (funext fun x => ?_)
      · simp [EntryNotice.stopAfter, hn]
      · simp [Device.cutoffCues, hn]
    | entered | platform _ _ =>
      refine stays (Takes.refl _ d) (fun x => ?_) (funext fun x => ?_)
      · simp [EntryNotice.stopAfter, hn]
      · simp [Device.cutoffCues, hn]
  exact fun h => (h.trans (.refreshLamps _ _ _)).congr fun x _ => ⟨rfl, by simp⟩

/-! ## The Cue Queue and the others (R171, R172) -/

/-- The cue that the Cue Queue makes of a notice (R171, R172). -/
def Device.noticeCues (d : Device) (n : EntryNotice) (e : Entry) : List Cue :=
  ((n.cueFor e).map fun c => { kind := c.1, train := some n.train, platform := c.2.1, notice := none, priority := c.2.2
                               second := d.now : Cue }).toList

theorem Device.cueNotice_takes (d : Device) (n : EntryNotice) : d.Takes n.train id (d.noticeCues n) (d.cueNotice n) := by
  unfold Device.cueNotice
  cases hx : d.entry? n.train with
  | none => exact (Takes.refl _ d).congr fun x h => by rw [hx] at h; cases h
  | some x =>
    rw [Option.bind_some]
    cases hc : n.cueFor x with
    | none =>
      refine (Takes.refl _ d).congr fun y hy => ⟨rfl, ?_⟩
      obtain rfl := Option.some_inj.1 (hx.symm.trans hy)
      unfold Device.noticeCues
      rw [hc]; rfl
    | some c =>
      refine (Takes.offerCue hx _).congr fun y hy => ⟨rfl, ?_⟩
      obtain rfl := Option.some_inj.1 (hx.symm.trans hy)
      unfold Device.noticeCues
      rw [hc]; rfl

theorem Device.boardNotice_takes (d : Device) (n : EntryNotice) (t : Nat) :
    d.Takes t id (fun _ => []) (d.boardNotice n) := by
  refine .quiet ?_ ?_ ?_ ?_ (d.boardNotice_pages n).1.flags
  all_goals simp only [Device.boardNotice_frame]

theorem Device.lastCallTest_takes (d : Device) (t : Nat) : d.Takes t id (fun _ => []) d.lastCallTest := by
  refine .quiet ?_ ?_ ?_ ?_ (Device.Aside.lastCallTest t d).pages.step.flags
  all_goals simp only [Device.lastCallTest_frame]

end Sys2Proof.Machine

/-! # A notice handed on: what becomes of its entry -/

namespace Sys2Proof.Machine

/-! ## Receivers in any order (log 6) -/

/-- A receiver of a notice: its act, what it writes of the entry, and the cues it offers for the entry. -/
structure Receiver where
  act : Device → Device
  write : Entry → Entry
  cues : Entry → List Cue

/-- While the clock and the settings stand, the act of the receiver is what its other fields say. -/
def Receiver.Faithful (t : Nat) (c : Clock) (h : HaltSettings) (r : Receiver) : Prop :=
  ∀ d : Device, d.clock = c → d.halt = h → d.Takes t r.write r.cues (r.act d)

/-- The order of two receivers is no matter to the entry nor to their cues. -/
def Receiver.Independent (r s : Receiver) : Prop :=
  ∀ e, r.write (s.write e) = s.write (r.write e) ∧ r.cues (s.write e) = r.cues e ∧ s.cues (r.write e) = s.cues e

theorem Receiver.Independent.symm {r s : Receiver} (h : r.Independent s) : s.Independent r := fun e =>
  ⟨(h e).1.symm, (h e).2.2, (h e).2.1⟩

/-- A receiver that leaves the entry alone and offers nothing is no matter to another. -/
theorem Receiver.independent_quiet (r : Receiver) (a : Device → Device) : r.Independent ⟨a, id, fun _ => []⟩ :=
  fun _ => ⟨rfl, rfl, rfl⟩

/-- Receivers one after another: each writes the entry, and the cues are offered in turn. -/
theorem Receiver.takes_foldl {t : Nat} {c : Clock} {h : HaltSettings} {rs : List Receiver} (hf : ∀ r ∈ rs, r.Faithful t c h)
    (hi : rs.Pairwise Receiver.Independent) {d : Device} (hc : d.clock = c) (hh : d.halt = h) :
    d.Takes t (fun e => rs.foldl (fun e r => r.write e) e) (fun e => rs.flatMap (fun r => r.cues e))
      ((rs.map Receiver.act).foldl (fun d f => f d) d) := by
  induction rs generalizing d with
  | nil => exact .refl t d
  | cons r rs ih =>
    obtain ⟨hr, hrest⟩ := List.pairwise_cons.1 hi
    have hfirst := hf r List.mem_cons_self d hc hh
    have hthen := ih (fun s hs => hf s (List.mem_cons_of_mem r hs)) hrest (hfirst.clock.trans hc) (hfirst.halt.trans hh)
    refine (hfirst.trans hthen).congr fun e _ => ⟨rfl, ?_⟩
    have hsame : rs.flatMap (fun s => s.cues (r.write e)) = rs.flatMap (fun s => s.cues e) :=
      List.flatMap_congr fun s hs => (hr s hs e).2.2
    rw [List.flatMap_cons, hsame]

/-- Receivers in an order left open write what they write in their own order, and offer the same cues in some order. -/
theorem Receiver.takes_forAll {t : Nat} {d : Device} {rs : List Receiver} (hf : ∀ r ∈ rs, r.Faithful t d.clock d.halt)
    (hi : rs.Pairwise Receiver.Independent) :
    ∃ cs : Entry → List Cue, (∀ e, (cs e).Perm (rs.flatMap fun r => r.cues e)) ∧
      d.Takes t (fun e => rs.foldl (fun e r => r.write e) e) cs (d.forAll (rs.map Receiver.act) fun f d => f d) := by
  have hperm := permute_perm d.sched rs
  have hsymm : Std.Symm Receiver.Independent := ⟨fun _ _ h => h.symm⟩
  have hi' : (permute d.sched rs).Pairwise Receiver.Independent := (hperm.pairwise_iff Receiver.Independent.symm).2 hi
  have htakes := Receiver.takes_foldl (d := { d with sched := d.sched / choices rs.length })
    (fun r hr => hf r (hperm.mem_iff.1 hr)) hi' rfl rfl
  have hfold : ∀ e, (permute d.sched rs).foldl (fun e r => r.write e) e = rs.foldl (fun e r => r.write e) e := fun e =>
    hperm.foldl_eq' (fun r hr s hs z => by
      by_cases hrs : r = s
      · rw [hrs]
      · exact (hi'.forall hr hs hrs z).1.symm) e
  refine ⟨fun e => (permute d.sched rs).flatMap fun r => r.cues e, fun e => hperm.flatMap_right _, ?_⟩
  have hrun : d.forAll (rs.map Receiver.act) (fun f d => f d) = ((permute d.sched rs).map Receiver.act).foldl (fun d f => f d)
      { d with sched := d.sched / choices rs.length } := by
    unfold Device.forAll Device.shuffle
    dsimp only
    rw [permute_map, List.length_map]
  rw [hrun]
  have hstart : d.Takes t id (fun _ => []) { d with sched := d.sched / choices rs.length } :=
    .quiet rfl rfl rfl rfl (.of_ports rfl)
  exact (hstart.trans htakes).congr fun e _ => ⟨hfold e, rfl⟩

/-! ## The five receivers are independent -/

theorem Entry.withStop_core (e : Entry) (s : StopState) : (e.withStop s).core = e.core.withStop s := rfl

/-- The stop state is no matter to a recompute (R76 to R86). -/
theorem Entry.recompute_withStop (dwell early : Nat) (n : Int) (tick : Bool) (e : Entry) (s : StopState) :
    (e.withStop s).recompute dwell early n tick =
      ((e.recompute dwell early n tick).1.withStop s, (e.recompute dwell early n tick).2) := by
  have hstages : ∀ (e : Entry) c f, (e.withStop s).recomputeStages dwell n c f = (e.recomputeStages dwell n c f).withStop s :=
    fun e c f => by
      unfold Entry.recomputeStages
      dsimp only
      rw [apply_ite (fun x : Entry => x.withStop s)]
      rfl
  have hoverdue : ∀ (e : Entry) c, (e.withStop s).overdueTest dwell n c = (e.overdueTest dwell n c).withStop s := fun e c => by
    unfold Entry.overdueTest
    have hf : (e.withStop s).forecast = e.forecast := rfl
    rw [hf]
    cases e.forecast with
    | none => rfl
    | some fc =>
      dsimp only
      rw [apply_ite (fun x : Entry => x.withStop s)]
      rfl
  have hcue : ∀ (e : Entry) c, (e.withStop s).delayCueTest c = (e.delayCueTest c).withStop s := fun e c => by
    unfold Entry.delayCueTest
    rw [apply_ite (fun x : Entry => x.withStop s), apply_ite (fun x : Entry => x.withStop s)]
    rfl
  unfold Entry.recompute
  have hh : (e.withStop s).held = e.held := rfl
  rw [hh]
  cases e.held with
  | none => rfl
  | some h =>
    have hd : (e.withStop s).forecastDelay early h.call = e.forecastDelay early h.call := rfl
    dsimp only
    rw [hd]
    cases e.forecastDelay early h.call with
    | none => rfl
    | some f =>
      dsimp only
      rw [hstages]
      cases tick
      · exact Prod.ext (hcue _ _) rfl
      · rw [if_pos rfl, if_pos rfl, hoverdue]
        exact Prod.ext (hcue _ _) rfl

theorem Device.forecasted_core (d : Device) (n : EntryNotice) (e : Entry) : (d.forecasted n e).core = e.core := by
  unfold Device.forecasted
  split
  · exact d.recomputedEntry_core false e
  · rfl

theorem Device.recomputedEntry_withStop (d : Device) (tick : Bool) (e : Entry) (s : StopState) :
    d.recomputedEntry tick (e.withStop s) = (d.recomputedEntry tick e).withStop s := by
  unfold Device.recomputedEntry Device.recomputeResult
  rw [Entry.recompute_withStop]
  exact (apply_ite (fun x : Entry => x.withStop s) _ _ _).symm

theorem Device.delayedCues_withStop (d : Device) (tick : Bool) (e : Entry) (s : StopState) :
    d.delayedCues tick (e.withStop s) = d.delayedCues tick e := by
  unfold Device.delayedCues Device.recomputeResult
  rw [Entry.recompute_withStop]
  rfl

theorem Device.forecasted_withStop (d : Device) (n : EntryNotice) (e : Entry) (s : StopState) :
    d.forecasted n (e.withStop s) = (d.forecasted n e).withStop s := by
  unfold Device.forecasted
  rw [d.recomputedEntry_withStop]
  exact (apply_ite (fun x : Entry => x.withStop s) _ _ _).symm

theorem Device.forecastCues_withStop (d : Device) (n : EntryNotice) (e : Entry) (s : StopState) :
    d.forecastCues n (e.withStop s) = d.forecastCues n e := by
  unfold Device.forecastCues
  rw [d.delayedCues_withStop]

/-- The Stop Request Unit reads of an entry what its core holds. -/
theorem EntryNotice.stopAfter_of_core {x e : Entry} (h : x.core = e.core) (n : EntryNotice) : n.stopAfter x = n.stopAfter e :=
  calc n.stopAfter x
    _ = n.stopAfter x.core := rfl
    _ = n.stopAfter e.core := by rw [h]
    _ = n.stopAfter e := rfl

theorem Device.cutoffCues_of_core {x e : Entry} (h : x.core = e.core) (d : Device) (n : EntryNotice) :
    d.cutoffCues n x = d.cutoffCues n e :=
  calc d.cutoffCues n x
    _ = d.cutoffCues n x.core := rfl
    _ = d.cutoffCues n e.core := by rw [h]
    _ = d.cutoffCues n e := rfl

theorem Device.noticeCues_of_core {x e : Entry} (h : x.core = e.core) (d : Device) (n : EntryNotice) :
    d.noticeCues n x = d.noticeCues n e :=
  calc d.noticeCues n x
    _ = d.noticeCues n x.core := rfl
    _ = d.noticeCues n e.core := by rw [h]
    _ = d.noticeCues n e := rfl

/-- No report confirms a request or drops a confirmed one (R103, R105). -/
theorem EntryNotice.stopAfter_confirmed {n : EntryNotice} (hn : n.cause = .report) (e : Entry) :
    n.stopAfter e = .confirmed ↔ e.stop = .confirmed := by
  unfold EntryNotice.stopAfter
  rw [hn]
  dsimp only
  cases e.held with
  | none => exact .rfl
  | some h =>
    dsimp only
    by_cases hcut : (n.reachesCutoff h.call && e.stop.inProgress) = true
    · have hstop : e.stop ≠ .confirmed := fun hs => by simp [hs, StopState.inProgress] at hcut
      simp [hcut, hstop]
    · by_cases hr : e.repeats n h.call = true
      · have hstop : e.stop ≠ .confirmed := fun hs => by simp [hs, Entry.repeats] at hr
        simp [hr, hcut, hstop]
      · simp [hcut, hr]

/-- The cue of a notice does not depend on whether the Stop Request Unit has taken it (R171, R172). -/
theorem Device.noticeCues_withStop (d : Device) (n : EntryNotice) (e : Entry) :
    d.noticeCues n (e.withStop (n.stopAfter e)) = d.noticeCues n e := by
  suffices hc : n.cueFor (e.withStop (n.stopAfter e)) = n.cueFor e by unfold Device.noticeCues; rw [hc]
  unfold EntryNotice.cueFor
  cases hn : n.cause with
  | report =>
    have happroach : ∀ k, approachCue k (n.stopAfter e) e.waiting = approachCue k e.stop e.waiting := fun k => by
      cases k
      · rfl
      · unfold approachCue
        simp only [EntryNotice.stopAfter_confirmed hn]
      · rfl
    have hh : (e.withStop (n.stopAfter e)).held = e.held := rfl
    have hw : (e.withStop (n.stopAfter e)).waiting = e.waiting := rfl
    simp only [hh, hw, Entry.withStop_stop, happroach]
  | cancel | platform _ _ | entered | reinstate | removed => rfl

/-! ## A notice handed on (R64) -/

/-- The entry of a notice's train after the notice has been handed on (R76, R103, R105, R107). -/
def Device.noticed (d : Device) (n : EntryNotice) (e : Entry) : Entry := (d.forecasted n e).withStop (n.stopAfter e)

/-- The cues that a notice raises (R86, R105, R171, R172). -/
def Device.raisedCues (d : Device) (n : EntryNotice) (e : Entry) : List Cue :=
  d.forecastCues n e ++ (d.cutoffCues n e ++ d.noticeCues n e)

/-- The forecast and the cues of a notice are worked out from the clock and the settings. -/
theorem Device.forecasted_congr {d e : Device} (hc : e.clock = d.clock) (hh : e.halt = d.halt) (n : EntryNotice) :
    e.forecasted n = d.forecasted n ∧ e.forecastCues n = d.forecastCues n ∧ e.cutoffCues n = d.cutoffCues n ∧
      e.noticeCues n = d.noticeCues n := by
  have hresult : ∀ x, e.recomputeResult false x = d.recomputeResult false x := fun x => by
    unfold Device.recomputeResult Device.entryTime Device.timeFrom Device.today Device.now
    rw [hc, hh]
  have hcue : ∀ k x p, e.cueAbout k x p = d.cueAbout k x p := fun k x p => by unfold Device.cueAbout; rw [hc]
  refine ⟨funext fun x => ?_, funext fun x => ?_, funext fun x => ?_, funext fun x => ?_⟩
  · simp only [Device.forecasted, Device.recomputedEntry, hresult, hc]
  · simp only [Device.forecastCues, Device.delayedCues, hresult, hc, hcue]
  · simp only [Device.cutoffCues, hcue]
  · simp only [Device.noticeCues, Device.now, hc]

/-- What a notice makes of its train's entry, and the cues it raises, in an order left open (R64, log 6). -/
theorem Device.deliver_takes (d : Device) (n : EntryNotice) :
    ∃ cs : Entry → List Cue, (∀ e, (cs e).Perm (d.raisedCues n e)) ∧ d.Takes n.train (d.noticed n) cs (d.deliver n) := by
  obtain ⟨rs, hrs⟩ : ∃ rs : List Receiver, rs = [⟨Device.forecastNotice n, d.forecasted n, d.forecastCues n⟩,
      ⟨Device.stopUnitNotice n, fun e => e.withStop (n.stopAfter e), d.cutoffCues n⟩,
      ⟨Device.boardNotice n, id, fun _ => []⟩, ⟨Device.cueNotice n, id, d.noticeCues n⟩,
      ⟨Device.lastCallTest, id, fun _ => []⟩] := ⟨_, rfl⟩
  have hfaithful : ∀ r ∈ rs, r.Faithful n.train d.clock d.halt := by
    intro r hr x hc hh
    obtain ⟨hforecast, hdelayed, hcutoff, hcue⟩ := Device.forecasted_congr hc hh n
    rw [hrs] at hr
    simp only [List.mem_cons, List.not_mem_nil, or_false] at hr
    rcases hr with rfl | rfl | rfl | rfl | rfl
    · dsimp only; rw [← hforecast, ← hdelayed]; exact x.forecastNotice_takes n
    · dsimp only; rw [← hcutoff]; exact x.stopUnitNotice_takes n
    · exact x.boardNotice_takes n _
    · dsimp only; rw [← hcue]; exact x.cueNotice_takes n
    · exact x.lastCallTest_takes _
  have hforecast_stop : ∀ a b, Receiver.Independent ⟨a, d.forecasted n, d.forecastCues n⟩
      ⟨b, fun e => e.withStop (n.stopAfter e), d.cutoffCues n⟩ := fun a b e => by
    refine ⟨?_, d.forecastCues_withStop n e _, Device.cutoffCues_of_core (d.forecasted_core n e) d n⟩
    dsimp only
    rw [d.forecasted_withStop, EntryNotice.stopAfter_of_core (d.forecasted_core n e)]
  have hforecast_cue : ∀ a b, Receiver.Independent ⟨a, d.forecasted n, d.forecastCues n⟩ ⟨b, id, d.noticeCues n⟩ := fun a b e =>
    ⟨rfl, rfl, Device.noticeCues_of_core (d.forecasted_core n e) d n⟩
  have hstop_cue : ∀ a b, Receiver.Independent ⟨a, fun e => e.withStop (n.stopAfter e), d.cutoffCues n⟩
      ⟨b, id, d.noticeCues n⟩ := fun a b e => ⟨rfl, rfl, d.noticeCues_withStop n e⟩
  have hindependent : rs.Pairwise Receiver.Independent := by
    rw [hrs]
    simp only [List.pairwise_cons, List.mem_cons, List.not_mem_nil, or_false, forall_eq_or_imp, forall_eq, List.Pairwise.nil,
      false_imp_iff, implies_true, and_true]
    exact ⟨⟨hforecast_stop _ _, Receiver.independent_quiet _ _, hforecast_cue _ _, Receiver.independent_quiet _ _⟩,
      ⟨Receiver.independent_quiet _ _, hstop_cue _ _, Receiver.independent_quiet _ _⟩,
      ⟨(Receiver.independent_quiet _ _).symm, Receiver.independent_quiet _ _⟩, Receiver.independent_quiet _ _⟩
  obtain ⟨cs, hperm, htakes⟩ := Receiver.takes_forAll hfaithful hindependent
  refine ⟨cs, fun e => (hperm e).trans ?_, ?_⟩
  · rw [hrs]
    simp [Device.raisedCues]
  · rw [hrs] at htakes
    refine htakes.congr fun e _ => ⟨?_, rfl⟩
    unfold Device.noticed
    rw [← EntryNotice.stopAfter_of_core (d.forecasted_core n e)]
    rfl

end Sys2Proof.Machine

/-! # What entering and removing a train leave of the entries -/

namespace Sys2Proof.Machine

/-! ## The entries found after an insertion (R51) -/

theorem find?_insertBy_other {α : Type} {before : α → α → Bool} {p : α → Bool} {x : α} (hx : p x = false) (l : List α) :
    (insertBy before x l).find? p = l.find? p := by
  induction l with
  | nil => simp [insertBy, hx]
  | cons y l ih =>
    unfold insertBy
    split
    · rw [List.find?_cons_of_neg (by simp [hx])]
    · rw [List.find?_cons, List.find?_cons, ih]

theorem find?_insertBy_self {α : Type} {before : α → α → Bool} {p : α → Bool} {x : α} (hx : p x = true) {l : List α}
    (hl : ∀ y ∈ l, p y = false) : (insertBy before x l).find? p = some x := by
  induction l with
  | nil => simp [insertBy, hx]
  | cons y l ih =>
    obtain ⟨hy, hl⟩ := List.forall_mem_cons.1 hl
    unfold insertBy
    split
    · exact List.find?_cons_of_pos hx
    · rw [List.find?_cons_of_neg (by simp [hy]), ih hl]

theorem Device.insertEntry_other (d : Device) {e : Entry} {m : Nat} (hm : m ≠ e.train) : (d.insertEntry e).entry? m = d.entry? m :=
  find?_insertBy_other (by simpa using hm.symm) _

theorem Device.insertEntry_self {d : Device} {e : Entry} (hn : d.entry? e.train = none) : (d.insertEntry e).entry? e.train = some e :=
  find?_insertBy_self (by simp) fun y hy => by simpa using Device.entry?_eq_none.1 hn y hy

/-! ## Removing (R73) -/

/-- A removal writes no entry that is left (R73, R108). -/
theorem Device.deliver_removed_table (d : Device) {n : EntryNotice} (hn : n.cause = .removed) : (d.deliver n).table = d.table := by
  unfold Device.deliver
  refine Device.forAll_actions_keep Device.table d (fun _ _ => rfl) fun f hf x => ?_
  simp only [List.mem_cons, List.not_mem_nil, or_false] at hf
  rcases hf with rfl | rfl | rfl | rfl | rfl
  · unfold Device.forecastNotice
    rw [hn]
  · unfold Device.stopUnitNotice
    rw [hn]
    simp only [Device.refreshLamps_frame, Device.stopRemoved_frame]
  · simp only [Device.boardNotice_frame]
  · simp only [Device.cueNotice_frame]
  · simp only [Device.lastCallTest_frame]

/-- The entries left by a removal are those of the other trains. -/
theorem Device.removeTrain_table (d : Device) (t : Nat) :
    (d.removeTrain t).table = { d.table with entries := d.table.entries.filter fun e => e.train != t } := by
  unfold Device.removeTrain
  split
  · next hn =>
    have hall : d.table.entries.filter (fun e => e.train != t) = d.table.entries :=
      List.filter_eq_self.2 fun e he => by simpa using Device.entry?_eq_none.1 hn e he
    rw [hall]
  · rw [Device.deliver_removed_table _ rfl]
    rfl

theorem Device.removeTrain_other (d : Device) {t m : Nat} (hm : m ≠ t) : (d.removeTrain t).entry? m = d.entry? m := by
  unfold Device.entry?
  rw [Device.removeTrain_table, List.find?_filter]
  congr 1
  funext e
  by_cases he : e.train = m
  · simp [he, hm]
  · simp [he]

theorem Device.removeTrain_entry?_none {d : Device} {t m : Nat} (hm : d.entry? m = none) : (d.removeTrain t).entry? m = none := by
  rw [Device.entry?_eq_none] at hm ⊢
  rw [Device.removeTrain_table]
  exact fun x hx => hm x (List.mem_filter.1 hx).1

/-! ## Entering (R55, R56) -/

/-- An ENTERED notice moves no stop request. -/
theorem Device.noticed_entered (d : Device) {n : EntryNotice} (hn : n.cause = .entered) (e : Entry) :
    d.noticed n e = d.recomputedEntry false e := by
  have hf : d.forecasted n e = d.recomputedEntry false e := by unfold Device.forecasted; rw [hn]; rfl
  have hs : n.stopAfter e = (d.forecasted n e).stop := by
    rw [← EntryNotice.stopAfter_of_core (d.forecasted_core n e)]
    unfold EntryNotice.stopAfter
    rw [hn]
  unfold Device.noticed
  rw [hs, Entry.withStop_self, hf]

/-- An ENTERED notice raises the cue of the forecast alone. -/
theorem Device.raisedCues_entered (d : Device) {n : EntryNotice} (hn : n.cause = .entered) (e : Entry) :
    d.raisedCues n e = d.delayedCues false e := by
  unfold Device.raisedCues Device.forecastCues Device.cutoffCues Device.noticeCues EntryNotice.cueFor
  rw [hn]
  exact List.append_nil _

/-- A new entry inserted, and its notice handed on (R55, R64): its forecast is worked out, with the cue of a delay. -/
theorem Device.insertEntry_takes (w : Device) (e : Entry) :
    (w.insertEntry e).Takes e.train (w.recomputedEntry false) (w.delayedCues false) ((w.insertEntry e).deliver e.enteredNotice) := by
  obtain ⟨cs, hperm, htakes⟩ := (w.insertEntry e).deliver_takes e.enteredNotice
  refine htakes.congr fun x _ => ⟨Device.noticed_entered _ rfl x, ?_⟩
  have hraised : (w.insertEntry e).raisedCues e.enteredNotice x = w.delayedCues false x := Device.raisedCues_entered _ rfl x
  have hle : (w.delayedCues false x).length ≤ 1 := by unfold Device.delayedCues; split <;> simp
  have hx := hperm x
  rw [hraised] at hx
  match hd : w.delayedCues false x, hle with
  | [], _ => rw [hd] at hx; exact hx.eq_nil
  | [c], _ => rw [hd] at hx; exact List.perm_singleton.1 hx

/-- The part that a new entry is inserted into: with room as it is, on a full table without the entry that makes way (R55, R56). -/
def Device.Room (d w : Device) : Prop :=
  (d.table.entries.length < 24 ∧ w = d) ∨
    (¬ d.table.entries.length < 24 ∧ ∃ v, d.table.victim = some v ∧ w = d.removeTrain v.train)

theorem Device.Room.entry?_none {d w : Device} (h : d.Room w) {m : Nat} (hm : d.entry? m = none) : w.entry? m = none := by
  rcases h with ⟨-, rfl⟩ | ⟨-, v, -, rfl⟩
  · exact hm
  · exact Device.removeTrain_entry?_none hm

/-- An entry is made or, on a full table that none can leave, not (R55, R56). -/
theorem Device.makeEntry_cases (d : Device) (e : Entry) :
    (∃ w, d.Room w ∧ d.makeEntry e = (.entered, (w.insertEntry e).deliver e.enteredNotice)) ∨
      d.makeEntry e = (.tableFull, d.setTableFull) := by
  unfold Device.makeEntry
  split
  · next hroom => exact .inl ⟨d, .inl ⟨hroom, rfl⟩, rfl⟩
  · next hroom =>
    split
    · next v hv => exact .inl ⟨_, .inr ⟨hroom, v, hv, rfl⟩, rfl⟩
    · exact .inr rfl

/-- A train entered has an entry with the fields of a new one, its forecast worked out (R55, R76). -/
theorem Device.makeEntry_entry? {d u : Device} {e : Entry} (hn : d.entry? e.train = none) (hu : d.makeEntry e = (.entered, u)) :
    ∃ y, u.entry? e.train = some y ∧ y.core = e.core := by
  rcases d.makeEntry_cases e with ⟨w, hw, hmake⟩ | hmake <;> rw [hmake] at hu <;> cases hu
  have hnw := hw.entry?_none hn
  exact ⟨_, by rw [(w.insertEntry_takes e).writes.mine, Device.insertEntry_self hnw]; rfl, w.recomputedEntry_core false e⟩

/-- A train without an entry that has just been asked for has no report yet (R55, R57). -/
theorem Device.askEnter_lastIndex {d : Device} {t : Nat} (hn : d.entry? t = none) {y : Entry}
    (hy : (d.askEnter t).2.entry? t = some y) : y.lastIndex = none := by
  unfold Device.askEnter Device.enterTrain at hy
  rw [hn] at hy
  dsimp only at hy
  split at hy
  · next c _ =>
    rcases d.makeEntry_cases (.fresh t d.today (some c)) with ⟨w, -, hmake⟩ | hmake
    · obtain ⟨z, hz, hcore⟩ := Device.makeEntry_entry? hn hmake
      rw [hmake] at hy
      obtain rfl := Option.some_inj.1 (hz.symm.trans hy)
      calc z.lastIndex
        _ = z.core.lastIndex := rfl
        _ = none := by rw [hcore]; rfl
    · rw [hmake] at hy
      exact absurd (hn.symm.trans hy) nofun
  · rw [Bool.false_and, if_neg (by simp)] at hy
    exact absurd (hn.symm.trans hy) nofun

end Sys2Proof.Machine

/-! # Laws of single entries through every step -/

namespace Sys2Proof.Machine

/-! ## A law of entries and what has to keep it -/

/-- What has to keep a law of single entries, of the clock state and the early setting that it reads: each act on an entry. -/
structure EntryLaw (L : ClockState → Nat → Entry → Prop) : Prop where
  touched : ∀ {c E e}, L c E e → L c E { e with touched := true }
  aged : ∀ {c E e}, L c E e → L c E e.aged
  raised : ∀ {c E e} (n : Nat) (b : Bool), L c E e → L c E { e with waiting := raiseWaiting n e.waiting, saleWatch := b }
  unwatched : ∀ {c E e}, L c E e → L c E { e with saleWatch := false }
  lowered : ∀ {c E e} (n : Nat), L c E e → L c E { e with waiting := e.waiting - n }
  /-- A request is made PENDING or SENT before the cutoff alone, or where it is so already (R105). -/
  stopped : ∀ {c E e} (s : StopState), (s.inProgress = true → e.stop.inProgress = true ∨
    ∀ h, e.held = some h → belowCutoff e.lastIndex h.call = true) → L c E e → L c E (e.withStop s)
  recomputed : ∀ (d : Device) (tick : Bool) {e}, L d.clock.state d.halt.early e → L d.clock.state d.halt.early (d.recomputedEntry tick e)
  fresh : ∀ {c E} (t : Nat) (x : Date) (held : Option HeldCall), (∀ h, held = some h → h.call.Valid) →
    L c E (Entry.fresh t x held)
  reported : ∀ (d : Device) {e} (own point time : Nat) (ev : RunEvent), e.judge own point ev ≠ .touchOnly →
    L d.clock.state d.halt.early e → L d.clock.state d.halt.early (d.noticed
      (reportNotice e (e.report (e.judge own point ev) (clampReport time) ev)) (e.report (e.judge own point ev) (clampReport time) ev))
  served : ∀ (d : Device) {e y} (a : ServiceAction) (cause : NoticeCause), e.service a = some (y, cause) →
    L d.clock.state d.halt.early e → L d.clock.state d.halt.early (d.noticed (serviceNotice e y cause) y)
  /-- The clock never becomes UNSET but at a start, which empties the table (R20, R53). -/
  clock : ∀ {c c' E e}, (c' = .unset → c = .unset) → L c E e → L c' E e
  /-- A change of the early setting recomputes every entry in scope (R75, R197). -/
  settings : ∀ (d : Device) {E e}, L d.clock.state E e → L d.clock.state d.halt.early (d.recomputedEntry false e)

/-- Every call of either timetable bank has passed the checks of a stored call (R8). -/
structure TimetableStore.CallsValid (tt : TimetableStore) : Prop where
  active : ∀ c ∈ tt.active.calls, c.Valid
  staged : ∀ c ∈ tt.staged.calls, c.Valid

theorem TimetableStore.Lawful.callsValid {tt : TimetableStore} (h : tt.Lawful) : tt.CallsValid := ⟨h.active.valid, h.staged.valid⟩

/-- A call looked up has passed the checks of a stored call (R8, R15). -/
theorem TimetableStore.CallsValid.lookup_valid {tt : TimetableStore} (h : tt.CallsValid) {x : Date} {t : Nat} {c : HeldCall}
    (hc : tt.lookup x t = some c) : c.call.Valid := by
  obtain ⟨r, hr, rfl⟩ := List.mem_map.1 (List.mem_of_find?_eq_some hc)
  exact h.active r (List.mem_filter.1 hr).1

/-- The calls that are copied from are valid, the table is lawful, and every entry meets the law. -/
structure Device.TableSound (L : ClockState → Nat → Entry → Prop) (d : Device) : Prop where
  banks : d.tt.CallsValid
  table : d.table.Lawful
  entries : ∀ e ∈ d.table.entries, L d.clock.state d.halt.early e

theorem RunningTable.Lawful.of_trains {a b : RunningTable} (h : a.Lawful)
    (hb : b.entries.map Entry.train = a.entries.map Entry.train) : b.Lawful := by
  refine ⟨?_, by rw [hb]; exact h.ascending⟩
  have := congrArg List.length hb
  rw [List.length_map, List.length_map] at this
  exact this ▸ h.fits

namespace Device.TableSound

variable {L : ClockState → Nat → Entry → Prop} {d e : Device}

theorem of_eq (h : d.TableSound L) (htt : e.tt = d.tt) (ht : e.table.entries = d.table.entries) (hc : e.clock.state = d.clock.state)
    (hh : e.halt = d.halt) : e.TableSound L :=
  ⟨htt ▸ h.banks, h.table.of_trains (by rw [ht]), by rw [ht, hc, hh]; exact h.entries⟩

theorem guarded {f : Device → Device} (c : Bool) (hf : ∀ d, d.TableSound L → (f d).TableSound L) (h : d.TableSound L) :
    (d.when c f).TableSound L := Kept.guarded c hf h

/-- An act on the entry of one train that keeps the law keeps the table sound. -/
theorem writes {t : Nat} {g : Entry → Entry} (h : d.TableSound L) (hw : d.Writes t g e) (htt : e.tt = d.tt)
    (hc : e.clock.state = d.clock.state) (hh : e.halt = d.halt)
    (hL : ∀ x, d.entry? t = some x → L d.clock.state d.halt.early x → L d.clock.state d.halt.early (g x)) : e.TableSound L := by
  refine ⟨htt ▸ h.banks, h.table.of_trains hw.trains, fun y hy => ?_⟩
  rw [hc, hh]
  have hone := h.table.oneEach
  have hfind := (hw.oneEach hone).entry?_eq_some.2 ⟨hy, rfl⟩
  by_cases hyt : y.train = t
  · rw [hyt, hw.mine, Option.map_eq_some_iff] at hfind
    obtain ⟨x, hx, rfl⟩ := hfind
    exact hL x hx (h.entries x (Device.mem_of_entry? hx))
  · rw [hw.others _ hyt] at hfind
    exact h.entries y (Device.mem_of_entry? hfind)

theorem takes {t : Nat} {g : Entry → Entry} {cs : Entry → List Cue} (h : d.TableSound L) (hw : d.Takes t g cs e) (htt : e.tt = d.tt)
    (hL : ∀ x, d.entry? t = some x → L d.clock.state d.halt.early x → L d.clock.state d.halt.early (g x)) : e.TableSound L :=
  h.writes hw.writes htt (by rw [hw.clock]) hw.halt hL

/-- An entry made into another, with its notice handed on. -/
theorem acted {t : Nat} (h : d.TableSound L) {x y : Entry} {n : EntryNotice} (hx : d.entry? t = some x) (hy : y.train = t)
    (hn : n.train = t) (hL : L d.clock.state d.halt.early x → L d.clock.state d.halt.early (d.noticed n y)) :
    ((d.updateEntry t fun _ => y).deliver n).TableSound L := by
  obtain ⟨cs, -, htakes⟩ := (d.updateEntry t fun _ => y).deliver_takes n
  subst hn
  refine h.writes (g := fun _ => d.noticed n y) ((Writes.updateEntry d (g := fun _ => y) fun _ _ => hy).trans htakes.writes) ?_ ?_ ?_
    fun z hz hLz => ?_
  · simp only [Device.deliver_frame, Device.updateEntry_frame]
  · simp only [Device.deliver_frame, Device.updateEntry_frame]
  · simp only [Device.deliver_frame, Device.updateEntry_frame]
  · obtain rfl := Option.some_inj.1 (hz.symm.trans hx)
    exact hL hLz

/-! ## Acts on entries -/

variable (K : EntryLaw L)
include K

theorem touch (h : d.TableSound L) (t : Nat) : (d.touch t).TableSound L :=
  h.writes (Writes.updateEntry d (g := fun e => { e with touched := true }) fun _ h => h) rfl rfl rfl fun _ _ => K.touched

theorem setStop (h : d.TableSound L) (t : Nat) (s : StopState)
    (hs : s.inProgress = true → ∀ x, d.entry? t = some x → x.stop.inProgress = true ∨
      ∀ c, x.held = some c → belowCutoff x.lastIndex c.call = true) : (d.setStop t s).TableSound L :=
  h.takes (.setStop t d s) (by simp only [Device.setStop_frame]) fun x hx => K.stopped s fun hp => hs hp x hx

theorem recomputeTrain (h : d.TableSound L) (tick : Bool) (t : Nat) : (d.recomputeTrain tick t).TableSound L :=
  h.takes (d.recomputeTrain_takes tick t) (by simp only [Device.recomputeTrain_frame]) fun _ _ => K.recomputed d tick

theorem recomputeEvery (h : d.TableSound L) (tick : Bool) : (d.recomputeEvery tick).TableSound L :=
  Device.forAll_induction h (fun _ _ h => h.of_eq rfl rfl rfl rfl) fun t _ _ h => h.recomputeTrain K tick t

/-- A request added to before the cutoff, or where one is made already (R94, R97, R105). -/
theorem addToRequest (h : d.TableSound L) (t n : Nat) (watch : Bool)
    (hs : ∀ x, d.entry? t = some x → x.stop = .none → ∀ c, x.held = some c → belowCutoff x.lastIndex c.call = true) :
    (d.addToRequest t n watch).TableSound L := by
  have hwrites : d.Writes t _ (d.updateEntry t fun e => { e with waiting := raiseWaiting n e.waiting, saleWatch := e.saleWatch || watch }) :=
    .updateEntry d fun _ h => h
  have hraised : (d.updateEntry t fun e =>
      { e with waiting := raiseWaiting n e.waiting, saleWatch := e.saleWatch || watch }).TableSound L :=
    h.writes hwrites rfl rfl rfl fun x _ => K.raised n _
  refine TableSound.takes (d := Device.when _ _ _) ?_ (.selectIfEligible t t _) ?_ fun _ _ h => h
  case refine_2 =>
    show (Device.selectIfEligible t _).tt = _
    simp only [Device.selectIfEligible_frame]
  unfold Device.when
  split
  · next hnone =>
    refine hraised.setStop K t .pending fun _ y hy => ?_
    rw [hwrites.mine] at hy
    obtain ⟨x, hx, rfl⟩ := Option.map_eq_some_iff.1 hy
    rw [hx] at hnone
    exact .inr (hs x hx (beq_iff_eq.1 hnone))
  · exact hraised

theorem voidFromRequest (h : d.TableSound L) (t n : Nat) : (d.voidFromRequest t n).TableSound L := by
  unfold Device.voidFromRequest
  split
  · exact h
  · refine guarded _ (fun e he => ?_) (h.writes (Writes.updateEntry d fun _ h => h) rfl rfl rfl fun x _ => K.lowered n)
    have hstop := he.setStop K t .none (by nofun)
    exact hstop.takes (.withdrawFrame t t _) (by simp only [Device.withdrawFrame_frame]) fun _ _ h => h

/-! ## Entering and removing -/

omit K in
theorem removeTrain (h : d.TableSound L) (t : Nat) : (d.removeTrain t).TableSound L := by
  unfold Device.removeTrain
  split
  · exact h
  · next x _ =>
    have hsub : (d.deleteEntry t).table.entries.Sublist d.table.entries := List.filter_sublist
    have hdel : (d.deleteEntry t).TableSound L :=
      ⟨h.banks, ⟨hsub.length_le.trans h.table.fits, h.table.ascending.sublist (hsub.map _)⟩, fun e he => h.entries e (hsub.subset he)⟩
    exact hdel.of_eq (by simp only [Device.deliver_frame]) (by rw [Device.deliver_removed_table _ rfl])
      (by simp only [Device.deliver_frame]) (by simp only [Device.deliver_frame])

theorem insertEntry (h : d.TableSound L) {x : Entry} (hn : d.entry? x.train = none) (hroom : d.table.entries.length < 24)
    (hx : L d.clock.state d.halt.early x) (hstop : x.enteredNotice.stopAfter x = x.stop) :
    ((d.insertEntry x).deliver x.enteredNotice).TableSound L := by
  have hin : (d.insertEntry x).TableSound L := by
    refine ⟨h.banks, ⟨?_, ?_⟩, fun e he => ?_⟩
    · have := insertBy_length (fun a b : Entry => decide (a.train < b.train)) x d.table.entries
      unfold Device.insertEntry
      dsimp only
      omega
    · exact insertBy_ascending Entry.train h.table.ascending fun y hy => Device.entry?_eq_none.1 hn y hy
    · rcases Device.mem_insertEntry.1 he with rfl | he
      · exact hx
      · exact h.entries e he
  obtain ⟨cs, -, htakes⟩ := (d.insertEntry x).deliver_takes x.enteredNotice
  refine hin.takes htakes (by simp only [Device.deliver_frame]) fun z hz hLz => ?_
  have hnoticed : (d.insertEntry x).noticed x.enteredNotice z = (d.insertEntry x).recomputedEntry false z := by
    unfold Device.noticed
    rw [← EntryNotice.stopAfter_of_core (Device.forecasted_core _ x.enteredNotice z)]
    exact Entry.withStop_self _
  rw [hnoticed]
  exact K.recomputed _ false hLz

omit K in
/-- The trains left after a removal are fewer. -/
theorem removeTrain_room (h : d.TableSound L) {v : Entry} (hv : v ∈ d.table.entries) :
    (d.removeTrain v.train).table.entries.length < 24 := by
  have hfind := h.table.oneEach.entry?_eq_some.2 ⟨hv, rfl⟩
  unfold Device.removeTrain
  rw [hfind]
  dsimp only
  rw [Device.deliver_removed_table _ rfl]
  have hlt : (d.deleteEntry v.train).table.entries.length < d.table.entries.length :=
    List.length_filter_lt_length_iff_exists.2 ⟨v, hv, by simp⟩
  exact hlt.trans_le h.table.fits

theorem makeEntry (h : d.TableSound L) {x : Entry} (hn : d.entry? x.train = none)
    (hx : ∀ {c E}, L c E x) : (d.makeEntry x).2.TableSound L := by
  unfold Device.makeEntry
  split
  · next hroom => exact h.insertEntry K hn hroom hx rfl
  · split
    · next v hv =>
      have hmem := (List.mem_filter.1 (oldest_mem hv)).1
      exact (h.removeTrain v.train).insertEntry K (Device.removeTrain_entry?_none hn) (h.removeTrain_room hmem) hx rfl
    · exact h.of_eq (by simp only [Device.setTableFull_frame]) rfl (by simp only [Device.setTableFull_frame]) (by simp only [Device.setTableFull_frame])

theorem enterTrain (h : d.TableSound L) {t : Nat} (hn : d.entry? t = none) (fromFrame : Bool) : (d.enterTrain t fromFrame).2.TableSound L := by
  unfold Device.enterTrain
  split
  · next c hc =>
    exact h.makeEntry K hn fun {_ _} => K.fresh _ _ _ fun r hr => Option.some_inj.1 hr ▸ h.banks.lookup_valid hc
  · split
    · exact h.makeEntry K hn fun {_ _} => K.fresh _ _ _ nofun
    · exact h

theorem askEnter (h : d.TableSound L) (t : Nat) : (d.askEnter t).2.TableSound L := by
  unfold Device.askEnter
  split
  · exact h
  · next hn => exact h.enterTrain K hn false

theorem ensureEntry (h : d.TableSound L) (t : Nat) : (d.ensureEntry t).TableSound L := by
  unfold Device.ensureEntry
  split
  · exact h
  · next hn => exact h.enterTrain K hn true

end Device.TableSound

end Sys2Proof.Machine

namespace Sys2Proof.Machine

namespace Device.TableSound

variable {L : ClockState → Nat → Entry → Prop} {d e : Device}

/-! ## The clock and the settings -/

/-- The clock never becomes UNSET but at a start (R20). -/
theorem setClock (K : EntryLaw L) (h : d.TableSound L) (c : Clock) (hc : c.state = .unset → d.clock.state = .unset) :
    (d.setClock c).TableSound L := ⟨h.banks, h.table, fun x hx => K.clock hc (h.entries x hx)⟩

theorem clockChanged (K : EntryLaw L) (h : d.TableSound L) (first : Bool) : (d.clockChanged first).TableSound L := by
  refine Device.forAll_induction h (fun _ _ h => h.of_eq rfl rfl rfl rfl) fun f hf x hx => ?_
  simp only [List.mem_cons, List.not_mem_nil, or_false] at hf
  rcases hf with rfl | rfl | rfl | rfl
  · exact hx.of_eq (by simp) (by simp) (by simp) (by simp)
  · exact hx.of_eq (by simp) (by simp) (by simp) (by simp)
  · exact guarded _ (fun _ h => h.recomputeEvery K false) hx
  · exact hx.of_eq (by simp) (by simp) (by simp) (by simp)

theorem stepClock (K : EntryLaw L) (h : d.TableSound L) (x : Date) (s : Nat) : (d.stepClock x s).TableSound L :=
  guarded _ (fun _ h => h.clockChanged K _) (h.setClock K _ nofun)

theorem timeMark (K : EntryLaw L) (h : d.TableSound L) (data : List Byte) : (d.timeMark data).TableSound L := by
  unfold Device.timeMark
  dsimp only
  split
  · exact h
  · exact h.stepClock K _ _
  · exact h.setClock K _ id

theorem syncExpiry (K : EntryLaw L) (h : d.TableSound L) : d.syncExpiry.TableSound L := by
  unfold Device.syncExpiry
  split
  · exact (h.setClock K { d.clock with state := .free, syncAge := 0 } nofun).clockChanged K _
  · exact h

/-- Trains recomputed one after another. -/
theorem recomputeTrains_entry? {ts : List Nat} (hts : ts.Nodup) (tick : Bool) {x : Device} (hc : x.clock = d.clock)
    (hh : x.halt = d.halt) (m : Nat) :
    (ts.foldl (fun x t => x.recomputeTrain tick t) x).entry? m =
      if m ∈ ts then (x.entry? m).map (d.recomputedEntry tick) else x.entry? m := by
  induction ts generalizing x with
  | nil => rfl
  | cons t ts ih =>
    obtain ⟨ht, hts⟩ := List.nodup_cons.1 hts
    have htakes := x.recomputeTrain_takes tick t
    have hsame : x.recomputedEntry tick = d.recomputedEntry tick := funext fun e => by
      unfold Device.recomputedEntry Device.recomputeResult Device.entryTime Device.timeFrom Device.today Device.now
      rw [hc, hh]
    rw [List.foldl_cons, ih hts (htakes.clock.trans hc) (htakes.halt.trans hh)]
    by_cases hm : m = t
    · subst hm
      rw [if_neg ht, if_pos List.mem_cons_self, htakes.writes.mine, hsame]
    · rw [htakes.writes.others m hm]
      simp only [List.mem_cons, hm, false_or]

/-- Every entry is recomputed once, whatever the order (R76, log 6). -/
theorem recomputeEvery_entry? (hd : d.table.OneEach) (tick : Bool) (m : Nat) :
    (d.recomputeEvery tick).entry? m = (d.entry? m).map (d.recomputedEntry tick) := by
  unfold Device.recomputeEvery Device.forAll Device.shuffle
  refine (recomputeTrains_entry? ((permute_perm _ _).nodup_iff.2 hd) tick rfl rfl m).trans ?_
  split
  · rfl
  · next hm =>
    have hnone : d.entry? m = none := by
      rw [Device.entry?_eq_none]
      exact fun x hx hxm => hm (mem_permute.2 (hxm ▸ List.mem_map_of_mem hx))
    rw [hnone]
    exact hnone

theorem recomputeEvery_trains (d : Device) (tick : Bool) :
    (d.recomputeEvery tick).table.entries.map Entry.train = d.table.entries.map Entry.train :=
  Device.forAll_keep (fun x => x.table.entries.map Entry.train) d (fun _ _ => rfl)
    fun t _ x => (x.recomputeTrain_takes tick t).writes.trains

/-- A change of the early setting is followed by a recompute of every entry (R75, R197). -/
theorem recomputeEvery_settings (K : EntryLaw L) (h : d.TableSound L) (htt : e.tt = d.tt) (ht : e.table = d.table)
    (hc : e.clock = d.clock) : (e.recomputeEvery false).TableSound L := by
  have hone : e.table.OneEach := by rw [ht]; exact h.table.oneEach
  have htrains := recomputeEvery_trains e false
  have hone' : (e.recomputeEvery false).table.OneEach := by unfold RunningTable.OneEach; rwa [htrains]
  refine ⟨by simp only [Device.recomputeEvery_frame]; exact htt ▸ h.banks, h.table.of_trains (by rw [htrains, ht]), fun y hy => ?_⟩
  simp only [Device.recomputeEvery_frame]
  have hfind := hone'.entry?_eq_some.2 ⟨hy, rfl⟩
  rw [recomputeEvery_entry? hone, Option.map_eq_some_iff] at hfind
  obtain ⟨x, hx, rfl⟩ := hfind
  have hmem := Device.mem_of_entry? hx
  rw [ht] at hmem
  have hL := h.entries x hmem
  rw [← hc] at hL
  exact K.settings e hL

theorem setHalt (K : EntryLaw L) (h : d.TableSound L) (ps : List Byte) : (runSetHalt ps d).1.TableSound L := by
  unfold runSetHalt
  split
  · exact h
  · generalize haltFrom ps = new
    dsimp only
    unfold Device.haltChanged
    have quiet : ∀ f ∈ [Device.when (d.halt.name != new.name || d.halt.dwell != new.dwell || d.halt.early != new.early) Device.recompose,
        Device.when (d.halt.reserve != new.reserve) Device.evalSales,
        Device.when (decide (new.uploadMark < d.halt.uploadMark)) Device.markJournal],
        ∀ x : Device, (f x).tt = x.tt ∧ (f x).table = x.table ∧ (f x).clock = x.clock ∧ (f x).halt = x.halt := by
      intro f hf x
      simp only [List.mem_cons, List.not_mem_nil, or_false] at hf
      rcases hf with rfl | rfl | rfl <;> simp
    refine Device.forAll_around (l := _ :: _) _ _ (List.Perm.refl _)
      (P := fun x => x.tt = d.tt ∧ x.table = d.table ∧ x.clock = d.clock ∧ x.halt = new) (fun _ => ⟨rfl, rfl, rfl, rfl⟩)
      (fun f hf x ⟨htt, ht, hc, hh⟩ => ?_) (fun x ⟨htt, ht, hc, hh⟩ => ?_) (fun f hf x hx => ?_)
    · obtain ⟨htt', ht', hc', hh'⟩ := quiet f hf x
      exact ⟨htt'.trans htt, ht'.trans ht, hc'.trans hc, hh'.trans hh⟩
    · by_cases hchanged : (d.halt.dwell != new.dwell || d.halt.early != new.early) = true
      · rw [Device.when, if_pos hchanged]
        exact h.recomputeEvery_settings K htt ht hc
      · rw [Device.when, if_neg hchanged]
        have hsame : new.early = d.halt.early := by
          simp only [Bool.or_eq_true, bne_iff_ne, not_or, not_not] at hchanged
          exact hchanged.2.symm
        exact ⟨htt ▸ h.banks, ht ▸ h.table, by rw [ht, hc, hh, hsame]; exact h.entries⟩
    · obtain ⟨htt', ht', hc', hh'⟩ := quiet f hf x
      exact hx.of_eq htt' (by rw [ht']) (by rw [hc']) hh'

/-! ## Frames and the sweep -/

variable (K : EntryLaw L)
include K

theorem runReport (h : d.TableSound L) (t point event second time : Nat) : (d.runReport t point event second time).TableSound L := by
  have htouch := h.touch K t
  unfold Device.runReport
  split
  · next x ev hx _ =>
    split
    · exact htouch
    · next hnew =>
      have hxt := Device.train_of_entry? hx
      have htrain : ∀ j time, (x.report j time ev).train = x.train := fun j time => by
        unfold Entry.report Entry.moveTo
        cases j <;> dsimp only <;> split <;> rfl
      exact htouch.acted hx ((htrain _ _).trans hxt) hxt (K.reported _ _ _ _ _ (not_or.1 hnew).2)
  · exact htouch

theorem runFrame (h : d.TableSound L) (t point : Nat) (data : List Byte) : (d.runFrame t point data).TableSound L := by
  unfold Device.runFrame
  split
  · next hn =>
    have henter := h.enterTrain K hn true
    split
    · split
      · next he => rw [he] at henter; exact henter.runReport K _ _ _ _ _
      · next he => rw [he] at henter; exact henter
    · exact h
  · split
    · exact h.runReport K _ _ _ _ _
    · split
      · exact h.runReport K _ _ _ _ _
      · exact h

theorem serviceAct (h : d.TableSound L) (t : Nat) (a : ServiceAction) : (d.serviceAct t a).TableSound L := by
  unfold Device.serviceAct
  split
  · next x y cause hact =>
    obtain ⟨z, hz, hres⟩ := Option.bind_eq_some_iff.1 hact
    obtain ⟨r, hr, heq⟩ := Option.map_eq_some_iff.1 hres
    cases heq
    have hxt := Device.train_of_entry? hz
    have hyt : y.train = t := by
      rcases Entry.service_cases hr with ⟨-, htrain, -⟩ | ⟨c, new, -, -, rfl, -⟩
      · exact htrain.trans hxt
      · exact hxt
    exact h.acted hz hyt hxt (K.served _ _ _ hr)
  · exact h

theorem serviceFrame (h : d.TableSound L) (t : Nat) (data : List Byte) : (d.serviceFrame t data).TableSound L := by
  have htouch := (h.ensureEntry K t).touch K t
  unfold Device.serviceFrame
  split
  · exact htouch.serviceAct K t _
  · exact htouch

theorem takeStopAck (h : d.TableSound L) (t : Nat) : (d.takeStopAck t).TableSound L := by
  unfold Device.takeStopAck
  split
  · exact h
  · split
    · exact h
    · refine guarded _ (fun x hx => ?_) (h.setStop K t .confirmed nofun)
      exact hx.takes (.withdrawFrame t t x) (by simp only [Device.withdrawFrame_frame]) fun _ _ h => h

theorem dispatch (h : d.TableSound L) (f : LineFrame) : (d.dispatch f).TableSound L := by
  unfold Device.dispatch
  split
  · exact guarded _ (fun _ h => h.runFrame K _ _ _) h
  · exact guarded _ (fun _ h => h.serviceFrame K _ _) h
  · exact guarded _ (fun _ h => h.timeMark K _) h
  · exact guarded _ (fun _ h => (h.touch K _).takeStopAck K _) h
  · exact guarded _ (fun _ h => h.of_eq (by simp) (by simp) (by simp) (by simp)) h
  · exact h

omit K in
/-- A return of the line and the change that comes with it, in either order (log 41). -/
theorem returnLine {f : Device → Device} (hf : ∀ d, d.TableSound L → (f d).TableSound L) (h : d.TableSound L) :
    (d.returnLine f).TableSound L := by
  unfold Device.returnLine
  split
  · exact hf d h
  · dsimp only
    split
    · have hback : d.freeChoice.2.lineBack.TableSound L := h.of_eq (by simp [Device.lineBack]) (by simp [Device.lineBack])
        (by simp [Device.lineBack]) (by simp [Device.lineBack])
      exact (hf _ hback).of_eq (by simp) (by simp) (by simp) (by simp)
    · exact hf _ (h.of_eq (by simp) (by simp) (by simp) (by simp))

theorem lineEvent (h : d.TableSound L) (f : LineFrame) : (d.lineEvent f).TableSound L := by
  refine guarded _ (fun d h => ?_) h
  have hhit : (d.setLastHit (d.line.hitOf f.ident)).TableSound L := h.of_eq rfl rfl rfl rfl
  unfold Device.arrival
  split
  · exact returnLine (fun _ h => h.dispatch K f) hhit
  · exact hhit

theorem attemptAcknowledged (h : d.TableSound L) : d.attemptAcknowledged.TableSound L := by
  unfold Device.attemptAcknowledged
  split
  · exact h
  · next k hk =>
    refine returnLine (fun x hx => ?_) (h.of_eq rfl rfl rfl rfl)
    unfold Device.takeAcknowledged
    have hsent : (x.when ((x.entry? (d.line.trainIn k)).any fun e => e.stop == .pending)
        (Device.setStop (d.line.trainIn k) .sent)).TableSound L := by
      unfold Device.when
      split
      · next hp =>
        refine hx.setStop K _ _ fun _ y hy => .inl ?_
        rw [hy] at hp
        rw [beq_iff_eq.1 hp]
        rfl
      · exact hx
    exact hsent.of_eq (by simp) (by simp) (by simp) (by simp)

theorem sweep (h : d.TableSound L) : d.sweep.TableSound L := by
  have hremoved : (d.forAll d.sweepVictims Device.removeTrain).TableSound L :=
    Device.forAll_induction h (fun _ _ h => h.of_eq rfl rfl rfl rfl) fun t _ _ h => h.removeTrain t
  have hcleared := guarded (!d.sweepVictims.isEmpty) (fun _ h => h.of_eq (e := Device.clearTableFull _) rfl rfl rfl rfl) hremoved
  have htrain : Entry.train ∘ Entry.aged = Entry.train := funext fun e => by
    unfold Function.comp Entry.aged
    split <;> rfl
  refine ⟨hcleared.banks, hcleared.table.of_trains ?_, fun x hx => ?_⟩
  · unfold Device.sweep
    rw [Device.ageEntries_table, List.map_map, htrain]
  · unfold Device.sweep at hx
    rw [Device.ageEntries_table] at hx
    obtain ⟨y, hy, rfl⟩ := List.mem_map.1 hx
    exact K.aged (hcleared.entries y hy)

theorem minuteTick (h : d.TableSound L) : d.minuteTick.TableSound L := by
  unfold Device.minuteTick
  split
  · exact h
  · refine Device.forAll_induction (h.setClock K _ id) (fun _ _ h => h.of_eq rfl rfl rfl rfl) fun f hf x hx => ?_
    simp only [List.mem_cons, List.not_mem_nil, or_false] at hf
    rcases hf with rfl | rfl | rfl | rfl | rfl
    · exact hx.recomputeEvery K true
    all_goals exact hx.of_eq (by simp) (by simp) (by simp) (by simp)

end Device.TableSound

end Sys2Proof.Machine

/-! # Laws of single entries through presses, sales, the banks and every step -/

namespace Sys2Proof.Machine

/-- An entry that a press may choose is below its cutoff (R96). -/
theorem Entry.pressable_below {dir : Direction} {e : Entry} (h : e.pressable dir = true) :
    ∀ c, e.held = some c → belowCutoff e.lastIndex c.call = true := fun c hc => by
  unfold Entry.pressable at h
  rw [hc] at h
  simp only [Bool.and_eq_true, Option.any_some] at h
  exact h.2.2

/-- An entry with no report is below any cutoff. -/
theorem belowCutoff_none (c : CallRec) : belowCutoff none c = true := rfl

/-- The call that a press chooses is a candidate (R96). -/
theorem Device.pressChoice_mem {d : Device} {dir : Direction} {c : PressChoice} (h : d.pressChoice dir = some c) :
    c ∈ d.pressCandidates dir :=
  (sortBy_perm _ _).mem_iff.1 (List.mem_of_mem_head? h)

/-- A candidate with an entry is that of a pressable one; one without an entry has none (R96). -/
theorem Device.pressCandidates_cases {d : Device} (hd : d.table.OneEach) {dir : Direction} {c : PressChoice}
    (h : c ∈ d.pressCandidates dir) :
    (c.entered = true ∧ ∃ e, d.entry? c.train = some e ∧ e.pressable dir = true) ∨ (c.entered = false ∧ d.entry? c.train = none) := by
  rcases List.mem_append.1 h with h | h
  · obtain ⟨e, he, rfl⟩ := List.mem_map.1 (List.mem_filter.1 h).1
    obtain ⟨hmem, hpress⟩ := List.mem_filter.1 he
    exact .inl ⟨rfl, e, hd.entry?_eq_some.2 ⟨hmem, rfl⟩, hpress⟩
  · obtain ⟨x, hx, rfl⟩ := List.mem_map.1 (List.mem_filter.1 h).1
    have hcond := (List.mem_filter.1 hx).2
    simp only [Bool.and_eq_true, Option.isNone_iff_eq_none] at hcond
    exact .inr ⟨rfl, hcond.1.2⟩

namespace Device.TableSound

variable {L : ClockState → Nat → Entry → Prop} {d e : Device}

/-! ## Presses and sales -/

variable (K : EntryLaw L)
include K

theorem pressOn (h : d.TableSound L) (dir : Direction) {t : Nat}
    (hs : ∀ x, d.entry? t = some x → ∀ c, x.held = some c → belowCutoff x.lastIndex c.call = true) :
    (d.pressOn dir t).TableSound L :=
  (h.addToRequest K t 1 false fun x hx _ => hs x hx).of_eq rfl rfl rfl rfl

theorem takePress (h : d.TableSound L) (dir : Direction) : (d.takePress dir).TableSound L := by
  unfold Device.takePress
  split
  · exact h
  · next c hc =>
    rcases Device.pressCandidates_cases h.table.oneEach (Device.pressChoice_mem hc) with ⟨hin, e, he, hpress⟩ | ⟨hin, hn⟩
    · rw [if_pos hin]
      refine h.pressOn K dir fun x hx => ?_
      rw [← Option.some_inj.1 (he.symm.trans hx)]
      exact Entry.pressable_below hpress
    · rw [if_neg (by simp [hin])]
      have hask := h.askEnter K c.train
      have hbelow : ∀ x, (d.askEnter c.train).2.entry? c.train = some x → ∀ r, x.held = some r → belowCutoff x.lastIndex r.call = true :=
        fun x hx r _ => by rw [Device.askEnter_lastIndex hn hx, belowCutoff_none]
      split
      · next hu =>
        rw [hu] at hask hbelow
        exact hask.pressOn K dir hbelow
      · next d' hu =>
        rw [hu] at hask hbelow
        unfold Device.when
        split
        · exact hask.pressOn K dir hbelow
        · exact hask
      · next hu => rw [hu] at hask; exact hask
      · next hu => rw [hu] at hask; exact hask

theorem press (h : d.TableSound L) (dir : Direction) : (d.press dir).TableSound L := by
  unfold Device.press
  split
  · exact TableSound.takePress K (d := d.setButtonState dir .pressed) (h.of_eq rfl rfl rfl rfl) dir
  · exact h

theorem void (h : d.TableSound L) (ps : List Byte) : (runVoid ps d).1.TableSound L := by
  unfold runVoid
  split
  · exact h
  · split
    · next x serial _ _ =>
      have hrecorded : ((d.appendRecord serial (.void x.serial)).setLastSale { x with voided := true }).TableSound L :=
        h.of_eq (by simp) (by simp) (by simp) (by simp)
      show (Device.voidTicket _ _ _).TableSound L
      unfold Device.voidTicket
      split
      · exact hrecorded
      · exact hrecorded.voidFromRequest K _ _
    · exact h

omit K in
/-- A departure found with an entry has the call that the entry holds (R119). -/
theorem departure_found {t : Nat} {e : Option Entry} {c : CallRec} (h : d.departure t = .found e c) :
    d.entry? t = e ∧ ∀ x, e = some x → ∃ r, x.held = some r ∧ r.call = c := by
  unfold Device.departure at h
  split at h
  · next x hx =>
    split at h
    · cases h
    · next r hr =>
      have hsame : ∀ {c'}, Departure.found (some x) r.call = .found e c' → e = some x ∧ c' = r.call := fun heq => by
        cases heq; exact ⟨rfl, rfl⟩
      split at h
      · cases h
      · cases h
      · cases h
      all_goals
        obtain ⟨rfl, rfl⟩ := hsame h
        exact ⟨hx, fun y hy => ⟨r, Option.some_inj.1 hy ▸ hr, rfl⟩⟩
  · next hx =>
    split at h
    · cases h
    · split at h
      · cases h
      · split at h
        · cases h
          exact ⟨hx, fun _ hy => nomatch hy⟩
        · cases h

omit K in
/-- An ISSUE for the train of a REQUEST call finds it below its cutoff or its stop CONFIRMED (R128). -/
theorem issueDeparture_ok {t : Nat} {e : Option Entry} {c : CallRec} (h : d.issueDeparture t = .ok (e, c)) :
    d.entry? t = e ∧ (∀ x, e = some x → ∃ r, x.held = some r ∧ r.call = c) ∧ tooLate e c = false := by
  unfold Device.issueDeparture at h
  split at h
  · cases h
  · cases h
  · cases h
  · next hfound =>
    split at h
    · cases h
    · split at h
      · cases h
      · next hlate =>
        split at h <;> cases h
        exact ⟨(departure_found hfound).1, (departure_found hfound).2, Bool.eq_false_of_not_eq_true hlate⟩

omit K in
/-- The entry of a request train at the issue of its ticket is not past the cutoff with no request made (R94, R128). -/
theorem issueCall_below {q : Quote} {c : Option CallRec} (h : d.issueCall q = (.ok c, e)) {t : Nat} (ht : requestTrain q c = some t) :
    ∀ x, e.entry? t = some x → x.stop = .none → ∀ r, x.held = some r → belowCutoff x.lastIndex r.call = true := by
  unfold requestTrain at ht
  split at ht
  · next hkind =>
    obtain ⟨r, rfl, hr⟩ := (Option.any_eq_true _ _).1 hkind
    unfold Device.issueCall at h
    rw [ht] at h
    dsimp only at h
    split at h
    · cases h
    · next o c' hok =>
      obtain ⟨hfind, hheld, hlate⟩ := issueDeparture_ok hok
      split at h
      · next hnew =>
        have hn : d.entry? t = none := hfind.trans (Option.isNone_iff_eq_none.1 hnew.2)
        have hbelow : ∀ x, (d.askEnter t).2.entry? t = some x → ∀ r, x.held = some r → belowCutoff x.lastIndex r.call = true :=
          fun x hx r _ => by rw [Device.askEnter_lastIndex hn hx, belowCutoff_none]
        split at h
        · cases h
        · next hask =>
          cases h
          rw [hask] at hbelow
          exact fun x hx _ => hbelow x hx
      · next hnew =>
        cases h
        intro x hx hstop k hk
        obtain ⟨r', hr', hcall⟩ := hheld x (hfind.symm.trans hx)
        rw [← hfind, hx] at hlate
        obtain rfl := Option.some_inj.1 (hk.symm.trans hr')
        have hreq : k.call.kind = .request := by rw [hcall]; exact beq_iff_eq.1 hr
        have hcut : cutoffPassed x k.call = false := by rw [hcall]; simpa [tooLate, hstop] using hlate
        unfold cutoffPassed at hcut
        rw [hreq] at hcut
        simpa using hcut
  · cases ht

theorem issueTicket (h : d.TableSound L) (k : QuoteSlot) {q : Quote} {c : Option CallRec} (pay : PayKind) (serial : Nat)
    (hs : ∀ t, requestTrain q c = some t → ∀ x, d.entry? t = some x → x.stop = .none → ∀ r, x.held = some r →
      belowCutoff x.lastIndex r.call = true) : (d.issueTicket k q c pay serial).TableSound L := by
  have hrecorded : (d.appendRecord serial (.sale (q.saleFields pay))).TableSound L := h.of_eq (by simp) (by simp) (by simp) (by simp)
  suffices hadded : ((d.appendRecord serial (.sale (q.saleFields pay))).addTicket (requestTrain q c) q.count).TableSound L by
    unfold Device.issueTicket
    exact hadded.of_eq (by simp) (by simp) (by simp) (by simp)
  unfold Device.addTicket
  split
  · exact hrecorded
  · next t ht =>
    refine hrecorded.addToRequest K t _ true fun x hx => hs t ht x ?_
    rw [← hx]
    unfold Device.entry?
    simp only [Device.appendRecord_frame]

omit K in
theorem refuseIssue (h : d.TableSound L) (k : QuoteSlot) (r : IssueRefusal) : (refuseIssue k r d).1.TableSound L :=
  guarded _ (fun _ h => h.of_eq (by simp) (by simp) (by simp) (by simp)) h

theorem issueCall (h : d.TableSound L) (q : Quote) : (d.issueCall q).2.TableSound L := by
  unfold Device.issueCall
  split
  · exact h
  · next t _ =>
    split
    · exact h
    · have hask := h.askEnter K t
      split
      · split
        · next hu => rw [hu] at hask; exact hask
        · next hu => rw [hu] at hask; exact hask
      · exact h

theorem issue (h : d.TableSound L) (ps : List Byte) : (runIssue ps d).1.TableSound L := by
  unfold runIssue
  split
  · exact h
  · split
    · exact h
    · split
      · exact h
      · next k q _ =>
        have hcall := h.issueCall K q
        unfold issueQuote
        split
        · exact refuseIssue h k _
        · split
          · next he => rw [he] at hcall; exact refuseIssue hcall k _
          · next he =>
            rw [he] at hcall
            split
            · exact hcall.issueTicket K k _ _ fun _ ht => issueCall_below he ht
            · exact refuseIssue hcall k _

/-! ## The banks and starts -/

omit K

/-- A change of the banks that keeps the calls valid. -/
theorem of_banks (h : d.TableSound L) (htt : e.tt.CallsValid) (ht : e.table.entries = d.table.entries)
    (hc : e.clock.state = d.clock.state) (hh : e.halt = d.halt) : e.TableSound L :=
  ⟨htt, h.table.of_trains (by rw [ht]), by rw [ht, hc, hh]; exact h.entries⟩

theorem setStaged (h : d.TableSound L) {b : TimetableBank} (hb : ∀ c ∈ b.calls, c.Valid) : (d.setStaged b).TableSound L :=
  h.of_banks ⟨h.banks.active, hb⟩ rfl rfl rfl

theorem beginTimetable (h : d.TableSound L) (id : Nat) : (stageBeginTimetable id d).1.TableSound L := by
  unfold stageBeginTimetable
  split
  · exact h
  · split
    · exact h
    · exact h.setStaged nofun

theorem putDest (h : d.TableSound L) (ps : List Byte) : (runStagePutDest ps d).1.TableSound L := by
  unfold runStagePutDest
  split
  · exact h
  · split
    · exact h
    · split
      · exact h
      · exact h.setStaged h.banks.staged

theorem putCall (h : d.TableSound L) (ps : List Byte) : (runStagePutCall ps d).1.TableSound L := by
  unfold runStagePutCall
  split
  · exact h
  · split
    · exact h
    · next hpass =>
      split
      · exact h
      · split
        · exact h
        · refine h.setStaged fun c hc => ?_
          rcases mem_insertBy.1 hc with rfl | hc
          · exact RawCall.toCall_valid (RawCall.firstFailing_eq_none_iff.1 hpass)
          · exact h.banks.staged c hc

theorem closeTimetable (h : d.TableSound L) (n : Nat) : (stageCloseTimetable n d).1.TableSound L := by
  unfold stageCloseTimetable
  split
  · exact h
  · split
    · exact h
    · exact (h.setStaged (b := { d.tt.staged with state := d.tt.staged.closeState n }) h.banks.staged).of_eq (by simp) (by simp) (by simp) (by simp)

theorem runApply (h : d.TableSound L) (c : Trigger) : (d.runApply c).TableSound L := by
  refine h.of_banks ?_ (by simp) (by simp) (by simp)
  have htt : (d.runApply c).tt = (d.tt.apply d.co.ttMode).1 := by simp [Device.runApply]
  rw [htt]
  unfold TimetableStore.apply
  split
  · exact h.banks
  · split
    · exact ⟨h.banks.staged, nofun⟩
    · exact h.banks
  · split
    · exact ⟨h.banks.staged, h.banks.active⟩
    · exact h.banks

theorem applyNow (h : d.TableSound L) (ps : List Byte) : (runApplyNow ps d).1.TableSound L := by
  unfold runApplyNow
  split
  · exact h
  · exact h.runApply _

theorem delayExpiry (h : d.TableSound L) : d.delayExpiry.TableSound L := by
  unfold Device.delayExpiry
  split
  · split
    · exact h
    · split
      · exact h.of_eq (by simp) (by simp) (by simp) (by simp)
      · exact h.runApply _
  · exact h

theorem dayTick (h : d.TableSound L) : d.dayTick.TableSound L := by
  cases hd : d.clock.dueDay with
  | zero => unfold Device.dayTick; rw [if_pos hd]; exact h
  | succ n =>
    obtain ⟨e, he⟩ : ∃ e, e = { d with clock := { d.clock with dueDay := n }, sched := d.sched / 2 } := ⟨_, rfl⟩
    have hl : e.TableSound L := h.of_eq (by rw [he]) (by rw [he]) (by rw [he]) (by rw [he])
    rcases Device.dayTick_cases hd he with hday | ⟨-, hday⟩ <;> rw [hday]
    · exact hl.of_eq (by simp) (by simp) (by simp) (by simp)
    · have hx : e.dayTrigger.TableSound L := hl.of_eq (by simp) (by simp) (by simp) (by simp)
      exact hx.delayExpiry.of_eq (by simp) (by simp) (by simp) (by simp)

theorem startEnd (h : d.TableSound L) (valid : Bool) : (d.startEnd valid).TableSound L := by
  have hempty : ∀ {e : Device}, e.tt.CallsValid → e.table.entries = [] → e.TableSound L := fun htt ht =>
    ⟨htt, by constructor <;> simp [ht], by simp [ht]⟩
  unfold Device.startEnd
  split
  · split
    · exact hempty ⟨h.banks.active, h.banks.staged⟩ rfl
    · exact hempty ⟨nofun, nofun⟩ rfl
  · exact h
  · exact h

theorem second (h : d.TableSound L) : d.second.TableSound L := by
  refine h.of_eq (by simp) (by simp) ?_ (by simp)
  have hcounted : ∀ c : Clock, c.counted.state = c.state := fun c => by unfold Clock.counted; split <;> rfl
  unfold Device.second
  split <;> exact hcounted _

theorem sweepTick (K : EntryLaw L) (h : d.TableSound L) : d.sweepTick.TableSound L := by
  unfold Device.sweepTick
  split
  · exact h
  · exact TableSound.sweep K (h.setClock K _ id)

theorem runSetTime (K : EntryLaw L) (h : d.TableSound L) (ps : List Byte) : (runSetTime ps d).1.TableSound L := by
  unfold Machine.runSetTime
  split
  · exact h
  · exact h.stepClock K _ _

theorem candidateClose (h : d.TableSound L) : d.candidateClose.TableSound L := by
  unfold Device.candidateClose
  split
  · exact h.of_eq rfl rfl rfl rfl
  · exact h

theorem readNotify (K : EntryLaw L) (h : d.TableSound L) (p : PortId) (ps : List Byte) : (runReadNotify p ps d).1.TableSound L := by
  have hclear : (d.clearNotify p).TableSound L := h.of_eq rfl rfl rfl rfl
  refine guarded _ (fun e he => ⟨he.banks, he.table.of_trains ?_, fun x hx => ?_⟩) hclear
  · unfold Device.clearWatches
    rw [List.map_map]
    rfl
  · obtain ⟨y, hy, rfl⟩ := List.mem_map.1 hx
    exact K.unwatched (he.entries y hy)

/-- A law of entries that every act keeps passes through every command and event. -/
theorem kept (K : EntryLaw L) : Kept (Device.TableSound L) where
  issue ps _ h := h.issue K ps
  void ps _ h := h.void K ps
  beginTimetable id _ h := h.beginTimetable id
  putDest ps _ h := h.putDest ps
  putCall ps _ h := h.putCall ps
  closeTimetable n _ h := h.closeTimetable n
  applyNow ps _ h := h.applyNow ps
  setHalt ps _ h := h.setHalt K ps
  setTime ps _ h := h.runSetTime K ps
  startEnd valid _ h := h.startEnd valid
  lineEvent f _ h := h.lineEvent K f
  attemptAcknowledged _ h := h.attemptAcknowledged K
  second _ h := h.second
  minuteTick _ h := h.minuteTick K
  sweepTick _ h := h.sweepTick K
  dayTick _ h := h.dayTick
  syncExpiry _ h := h.syncExpiry K
  candidateClose _ h := h.candidateClose
  delayExpiry _ h := h.delayExpiry
  press dir _ h := h.press K dir
  port _ _ _ h := h.of_eq rfl rfl rfl rfl
  beginStart _ _ h := h.of_eq rfl rfl rfl rfl
  powerLoss _ h := h.of_eq rfl rfl rfl rfl
  expire _ h := h.of_eq (by simp) (by simp) (by simp) (by simp)
  quote _ _ h := h.of_eq (by simp) (by simp) (by simp) (by simp)
  cancelQuote _ _ h := h.of_eq (by simp) (by simp) (by simp) (by simp)
  readPage _ _ h := h.of_eq (by simp) (by simp) (by simp) (by simp)
  takeCue _ _ h := h.of_eq (by simp) (by simp) (by simp) (by simp)
  reportScreen _ _ h := h.of_eq (by simp) (by simp) (by simp) (by simp)
  readDepartures _ _ h := h.of_eq (by simp) (by simp) (by simp) (by simp)
  readNotify p ps _ h := h.readNotify K p ps
  setNotifyMask _ _ _ h := h.of_eq (by simp) (by simp) (by simp) (by simp)
  beginFares _ _ h := h.of_eq (by simp) (by simp) (by simp) (by simp)
  putFare _ _ h := h.of_eq (by simp) (by simp) (by simp) (by simp)
  putRules _ _ h := h.of_eq (by simp) (by simp) (by simp) (by simp)
  closeFares _ _ h := h.of_eq (by simp) (by simp) (by simp) (by simp)
  changeoverSet _ _ h := h.of_eq (by simp) (by simp) (by simp) (by simp)
  putNotice _ _ h := h.of_eq (by simp) (by simp) (by simp) (by simp)
  removeNotice _ _ h := h.of_eq (by simp) (by simp) (by simp) (by simp)
  showNotice _ _ _ h := h.of_eq (by simp) (by simp) (by simp) (by simp)
  setFilter _ _ h := h.of_eq (by simp) (by simp) (by simp) (by simp)
  setScreen _ _ h := h.of_eq (by simp) (by simp) (by simp) (by simp)
  setGroup _ _ h := h.of_eq (by simp) (by simp) (by simp) (by simp)
  setSerialBase _ _ h := h.of_eq (by simp) (by simp) (by simp) (by simp)
  setPartition _ _ h := h.of_eq (by simp) (by simp) (by simp) (by simp)
  readJournal _ _ h := h.of_eq (by simp) (by simp) (by simp) (by simp)
  release _ _ h := h.of_eq (by simp) (by simp) (by simp) (by simp)
  closeOrOpen _ _ h := h.of_eq (by simp) (by simp) (by simp) (by simp)
  restartLine _ _ h := h.of_eq (by simp) (by simp) (by simp) (by simp)
  readStatus _ _ h := h.of_eq (by simp) (by simp) (by simp) (by simp)
  attemptStart _ h := h.of_eq (by simp) (by simp) (by simp) (by simp)
  attemptNotAcknowledged _ h := h.of_eq (by simp) (by simp) (by simp) (by simp)
  noticeTick _ h := h.of_eq (by simp) (by simp) (by simp) (by simp)
  release' _ _ h := h.of_eq (by simp) (by simp) (by simp) (by simp)
  lampFlash _ _ h := h.of_eq (by simp) (by simp) (by simp) (by simp)

end Device.TableSound

end Sys2Proof.Machine

/-! # The two laws of the entries: ranges and requests, and forecasts -/

namespace Sys2Proof.Machine

/-! ## What a recompute makes of the forecast (R78 to R83) -/

/-- A forecast departure lies from the arrival to the upper limit of a time (R79, R80). -/
theorem Entry.forecastDeparture_bounds (dwell : Nat) (n : Int) (e : Entry) (c : CallRec) {a : Nat} (ha : a ≤ 108119) :
    a ≤ e.forecastDeparture dwell n c a ∧ e.forecastDeparture dwell n c a ≤ 108119 := by
  have hclamp : ∀ t : Int, (a : Int) ≤ t → a ≤ clampTime t ∧ clampTime t ≤ 108119 := fun t ht => by
    unfold clampTime
    omega
  unfold Entry.forecastDeparture
  split
  · exact hclamp _ (by omega)
  · split
    · exact ⟨le_rfl, ha⟩
    · exact hclamp _ (by omega)
    · exact hclamp _ (by omega)

/-- The forecast departure of a stopping train is not before its scheduled one (R80). -/
theorem Entry.scheduled_le_forecastDeparture (dwell : Nat) (n : Int) (e : Entry) {c : CallRec} (a : Nat) (hc : c.schedDep ≤ 86399)
    (hk : c.kind = .pass → e.state = .atHalt) : c.schedDep ≤ e.forecastDeparture dwell n c a := by
  have hclamp : ∀ t : Int, (c.schedDep : Int) ≤ t → c.schedDep ≤ clampTime t := fun t ht => by
    unfold clampTime
    omega
  unfold Entry.forecastDeparture
  split
  · exact hclamp _ (by omega)
  · next hs =>
    split
    · next hp => exact absurd (hk hp) hs
    · exact hclamp _ (by omega)
    · exact hclamp _ (by omega)

theorem Entry.forecastArrival_le (e : Entry) (c : CallRec) (f : Int) : e.forecastArrival c f ≤ 108119 := by
  unfold Entry.forecastArrival clampTime
  split <;> omega

/-- A forecast that a recompute may make: of the delay given, with an arrival of R79 or the one held before (R78 to R83). -/
def Entry.Reckoned (e : Entry) (dwell : Nat) (n : Int) (c : CallRec) (f : Int) (fc : Forecast) : Prop :=
  fc.delay = f ∧ fc.departure = e.forecastDeparture dwell n c fc.arrival ∧
    (fc.arrival ≤ 108119 ∨ ∃ old, e.forecast = some old ∧ fc.arrival = old.arrival)

/-- Stages 1 to 4 make a forecast (R78 to R80, R83). -/
theorem Entry.recomputeStages_forecast (dwell : Nat) (n : Int) (e : Entry) (c : CallRec) (f : Int) :
    ∃ fc, (e.recomputeStages dwell n c f).forecast = some fc ∧ (e.recomputeStages dwell n c f).state = e.state ∧
      e.Reckoned dwell n c f fc := by
  unfold Entry.recomputeStages
  dsimp only
  split
  · exact ⟨_, rfl, rfl, rfl, rfl, .inl (e.forecastArrival_le c f)⟩
  · refine ⟨_, rfl, rfl, rfl, rfl, ?_⟩
    dsimp only
    split
    · cases e.forecast with
      | none => exact .inl (e.forecastArrival_le c f)
      | some old => exact .inr ⟨old, rfl, rfl⟩
    · exact .inl (e.forecastArrival_le c f)

/-- The overdue test leaves a forecast of the same delay (R82). -/
theorem Entry.overdueTest_forecast {dwell : Nat} {n : Int} {e x : Entry} {c : CallRec} {f : Int} {fc : Forecast}
    (hx : x.forecast = some fc) (hs : x.state = e.state) (hfc : e.Reckoned dwell n c f fc) :
    ∃ fc', (x.overdueTest dwell n c).forecast = some fc' ∧ e.Reckoned dwell n c f fc' := by
  unfold Entry.overdueTest
  rw [hx]
  dsimp only
  split
  · exact ⟨fc, hx, hfc⟩
  · refine ⟨_, rfl, hfc.1, ?_, .inl (min_le_right _ _)⟩
    unfold Entry.forecastDeparture
    rw [hs]

/-- A recompute of an entry that has what its state needs makes a forecast (R76, R78). -/
theorem Entry.recompute_forecast {e : Entry} {h : HeldCall} {early : Nat} {f : Int} (hh : e.held = some h)
    (hf : e.forecastDelay early h.call = some f) (dwell : Nat) (n : Int) (tick : Bool) :
    ∃ fc, (e.recompute dwell early n tick).1.forecast = some fc ∧ e.Reckoned dwell n h.call f fc := by
  obtain ⟨fc, hfc, hs, hreck⟩ := e.recomputeStages_forecast dwell n h.call f
  have hcue : ∀ x : Entry, (x.delayCueTest h.call).forecast = x.forecast := fun x => by
    unfold Entry.delayCueTest
    split
    · rfl
    · split <;> rfl
  unfold Entry.recompute
  rw [hh]
  dsimp only
  rw [hf]
  dsimp only
  rw [hcue]
  cases tick
  · exact ⟨fc, hfc, hreck⟩
  · exact Entry.overdueTest_forecast hfc hs hreck

/-- A recompute of an entry that lacks what its state needs leaves it. -/
theorem Entry.recompute_none {e : Entry} {early : Nat} (h : ∀ c, e.held = some c → e.forecastDelay early c.call = none) (dwell : Nat)
    (n : Int) (tick : Bool) : (e.recompute dwell early n tick).1 = e := by
  unfold Entry.recompute
  cases hh : e.held with
  | none => rfl
  | some c =>
    dsimp only
    rw [h c hh]

/-! ## Ranges and requests (R51, R61, R74, R92, R105) -/

/-- A recompute keeps the ranges. -/
theorem Entry.RangesLawful.recomputed {e : Entry} (h : e.RangesLawful) (d : Device) (tick : Bool) : (d.recomputedEntry tick e).RangesLawful := by
  have hcore := d.recomputedEntry_core tick e
  have hfield : ∀ {β : Type} (g : Entry → β), (∀ x, g x.core = g x) → g (d.recomputedEntry tick e) = g e := fun g hg => by
    rw [← hg, hcore, hg]
  refine ⟨?_, ?_, ?_, ?_, ?_, fun f hf => ?_, ?_, ?_⟩
  · rw [hfield Entry.held fun _ => rfl]; exact h.route
  · rw [hfield Entry.lastIndex fun _ => rfl]; exact h.index
  · rw [hfield Entry.lastTime fun _ => rfl]; exact h.time
  · rw [hfield Entry.haltArrival fun _ => rfl]; exact h.arrival
  · rw [hfield Entry.delay fun _ => rfl]; exact h.delay
  · unfold Device.recomputedEntry Device.recomputeResult at hf
    split at hf
    · by_cases hsome : ∃ c x, e.held = some c ∧ e.forecastDelay d.halt.early c.call = some x
      · obtain ⟨c, x, hc, hx⟩ := hsome
        obtain ⟨fc, hfc, -, hdep, harr⟩ := Entry.recompute_forecast hc hx d.halt.dwell (d.entryTime e) tick
        obtain rfl := Option.some_inj.1 (hf.symm.trans hfc)
        have harrival : f.arrival ≤ 108119 := by
          rcases harr with harr | ⟨old, hold, harr⟩
          · exact harr
          · have := h.forecast old hold
            omega
        rw [hdep]
        exact Entry.forecastDeparture_bounds _ _ _ _ harrival
      · rw [Entry.recompute_none fun c hc => Option.eq_none_iff_forall_ne_some.2 fun x hx => hsome ⟨c, x, hc, hx⟩] at hf
        exact h.forecast f hf
    · exact h.forecast f hf
  · rw [hfield Entry.waiting fun _ => rfl]; exact h.waiting
  · rw [hfield Entry.idleSweeps fun _ => rfl]; exact h.idle

theorem Entry.RangesLawful.forecasted {e : Entry} (h : e.RangesLawful) (d : Device) (n : EntryNotice) : (d.forecasted n e).RangesLawful := by
  unfold Device.forecasted
  split
  · exact h.recomputed d false
  · exact h

theorem Entry.RangesLawful.withStop {e : Entry} (h : e.RangesLawful) (s : StopState) : (e.withStop s).RangesLawful :=
  ⟨h.route, h.index, h.time, h.arrival, h.delay, h.forecast, h.waiting, h.idle⟩

theorem Entry.RangesLawful.noticed {e : Entry} (h : e.RangesLawful) (d : Device) (n : EntryNotice) : (d.noticed n e).RangesLawful :=
  (h.forecasted d n).withStop _

/-- A state move keeps the ranges. -/
theorem Entry.RangesLawful.moveTo {e : Entry} (h : e.RangesLawful) (s : RunState) : (e.moveTo s).RangesLawful := by
  unfold Entry.moveTo
  split <;> exact ⟨h.route, h.index, h.time, h.arrival, h.delay, h.forecast, h.waiting, h.idle⟩

/-- A point found in a route has its place there, from 1 (R60). -/
theorem routeIndex_get {point j : Nat} {l : List RoutePoint} {k : Nat} {pt : RoutePoint} (h : routeIndex point j l = some (k, pt)) :
    ∃ i, k = j + i ∧ l[i]? = some pt := by
  induction l generalizing j with
  | nil => cases h
  | cons r rs ih =>
    unfold routeIndex at h
    split at h
    · cases h; exact ⟨0, rfl, rfl⟩
    · obtain ⟨i, rfl, hi⟩ := ih h
      exact ⟨i + 1, by omega, hi⟩

/-- A judgement at a route point is of a point of the held call's route (R60). -/
theorem Entry.judge_route {e : Entry} {own point k : Nat} {ev : RunEvent} {pt : RoutePoint} (h : e.judge own point ev = .route k pt) :
    ∃ c i, e.held = some c ∧ k = 1 + i ∧ c.call.route[i]? = some pt := by
  unfold Entry.judge at h
  split at h
  · cases h
  · split at h
    · split at h <;> cases h
    · split at h
      · next c hc =>
        split at h
        · next hindex =>
          split at h <;> cases h
          obtain ⟨i, hk, hi⟩ := routeIndex_get hindex
          exact ⟨c, i, hc, hk, hi⟩
        · cases h
      · split at h <;> cases h

/-- A report of an UNLISTED train away from the halt is of an entry without a call (R62). -/
theorem Entry.judge_away {e : Entry} {own point : Nat} {ev : RunEvent} (h : e.judge own point ev = .away) : e.held = none := by
  unfold Entry.judge at h
  split at h
  · cases h
  · split at h
    · split at h <;> cases h
    · split at h
      · split at h
        · split at h <;> cases h
        · cases h
      · next hn => exact hn

/-- A new report is of an entry neither DEPARTED nor PASSED (R60). -/
theorem Entry.judge_runs {e : Entry} {own point : Nat} {ev : RunEvent} (h : e.judge own point ev ≠ .touchOnly) :
    e.effectiveState ≠ .departed ∧ e.effectiveState ≠ .passed := by
  unfold Entry.judge at h
  split at h
  · exact absurd rfl h
  · next hs => exact not_or.1 hs

/-- A report keeps the ranges (R58, R61). -/
theorem Entry.RangesLawful.reported {e : Entry} (h : e.RangesLawful) (own point time : Nat) (ev : RunEvent) :
    (e.report (e.judge own point ev) (clampReport time) ev).RangesLawful := by
  have htime : ∀ t, some (clampReport time) = some t → t ≤ 108119 := fun t ht => by
    rw [← Option.some_inj.1 ht]
    exact min_le_right _ _
  unfold Entry.report
  cases hj : e.judge own point ev with
  | touchOnly => exact h
  | away =>
    refine Entry.RangesLawful.moveTo ?_ _
    exact ⟨h.route, h.index, htime, h.arrival, h.delay, h.forecast, h.waiting, h.idle⟩
  | route k pt =>
    obtain ⟨c, i, hc, rfl, hi⟩ := Entry.judge_route hj
    have hlen := (List.getElem?_eq_some_iff.1 hi).choose
    have hroute := h.route c hc
    refine Entry.RangesLawful.moveTo ?_ _
    refine ⟨h.route, fun j hj => ?_, htime, h.arrival, fun x hx => ?_, h.forecast, h.waiting, h.idle⟩
    · rw [← Option.some_inj.1 hj]; omega
    · rw [← Option.some_inj.1 hx]; unfold clampDelay; omega
  | halt =>
    refine Entry.RangesLawful.moveTo ?_ _
    refine ⟨h.route, fun j hj => ?_, htime, fun t ht => ?_, h.delay, h.forecast, h.waiting, h.idle⟩
    · rw [← Option.some_inj.1 hj]; omega
    · dsimp only at ht
      split at ht
      · exact htime t ht
      · exact h.arrival t ht

/-- A report leaves the call, the stop request and its count. -/
theorem Entry.report_keeps (e : Entry) (j : RunJudgement) (t : Nat) (ev : RunEvent) :
    (e.report j t ev).held = e.held ∧ (e.report j t ev).stop = e.stop ∧ (e.report j t ev).train = e.train ∧
      (e.report j t ev).forecast = e.forecast := by
  have hmove : ∀ (x : Entry) s, (x.moveTo s).held = x.held ∧ (x.moveTo s).stop = x.stop ∧ (x.moveTo s).train = x.train ∧
      (x.moveTo s).forecast = x.forecast :=
    fun x s => by unfold Entry.moveTo; split <;> exact ⟨rfl, rfl, rfl, rfl⟩
  unfold Entry.report
  cases j with
  | touchOnly => exact ⟨rfl, rfl, rfl, rfl⟩
  | away | route | halt => exact hmove _ _

/-- What a core keeps of the call and the index, a notice leaves. -/
theorem Device.noticed_keeps (d : Device) (n : EntryNotice) (e : Entry) :
    (d.noticed n e).held = e.held ∧ (d.noticed n e).lastIndex = e.lastIndex ∧ (d.noticed n e).stop = n.stopAfter e := by
  have hcore := d.forecasted_core n e
  have hheld : (d.forecasted n e).core.held = e.core.held := by rw [hcore]
  have hindex : (d.forecasted n e).core.lastIndex = e.core.lastIndex := by rw [hcore]
  exact ⟨hheld, hindex, rfl⟩

/-- A stop state is in progress or not (R93). -/
theorem StopState.inProgress_eq_false {s : StopState} : s.inProgress = false ↔ s ≠ .pending ∧ s ≠ .sent := by
  cases s <;> simp [StopState.inProgress]

theorem Entry.stopLawful_iff {e : Entry} :
    e.StopLawful ↔ ∀ h, e.held = some h → belowCutoff e.lastIndex h.call = false → e.stop.inProgress = false := by
  unfold Entry.StopLawful
  simp only [StopState.inProgress_eq_false]

/-- What a report makes of the request of a train with a call (R103, R105). -/
theorem EntryNotice.stopAfter_report {n : EntryNotice} (hn : n.cause = .report) {e : Entry} {h : HeldCall} (hh : e.held = some h) :
    n.stopAfter e = if n.reachesCutoff h.call && e.stop.inProgress then .unconfirmed
      else if e.repeats n h.call then .pending else e.stop := by
  unfold EntryNotice.stopAfter
  rw [hn, hh]

/-- A report drops a request that its index takes past the cutoff, and makes none there (R103, R105). -/
theorem Entry.StopLawful.reported {e : Entry} (h : e.StopLawful) (d : Device) (j : RunJudgement) (t : Nat) (ev : RunEvent) :
    (d.noticed (reportNotice e (e.report j t ev)) (e.report j t ev)).StopLawful := by
  obtain ⟨hheld, hindex, hstop⟩ := d.noticed_keeps (reportNotice e (e.report j t ev)) (e.report j t ev)
  obtain ⟨hh, hs, -, -⟩ := e.report_keeps j t ev
  rw [Entry.stopLawful_iff] at h ⊢
  rw [hheld, hindex, hstop, hh]
  intro c hc hpast
  have hrepeat : (e.report j t ev).repeats (reportNotice e (e.report j t ev)) c.call = false := by
    simp [Entry.repeats, reportNotice, hpast]
  have hcut : (reportNotice e (e.report j t ev)).reachesCutoff c.call = belowCutoff e.lastIndex c.call := by
    simp [EntryNotice.reachesCutoff, reportNotice, hpast]
  rw [EntryNotice.stopAfter_report rfl (hh.trans hc), hrepeat, hcut, hs]
  cases hbelow : belowCutoff e.lastIndex c.call
  · simp [h c hc hbelow]
  · cases hp : e.stop.inProgress
    · simp [hp]
    · rfl

/-- No service action makes a request past the cutoff (R107). -/
theorem Entry.StopLawful.served {e y : Entry} (h : e.StopLawful) (d : Device) {a : ServiceAction} {cause : NoticeCause}
    (hy : e.service a = some (y, cause)) : (d.noticed (serviceNotice e y cause) y).StopLawful := by
  obtain ⟨hheld, hindex, hstop⟩ := d.noticed_keeps (serviceNotice e y cause) y
  rw [Entry.stopLawful_iff] at h ⊢
  rw [hheld, hindex, hstop]
  unfold Entry.service at hy
  split at hy
  · split at hy <;> cases hy
    all_goals
      intro c hc hpast
      have := h c hc hpast
      simp [EntryNotice.stopAfter, serviceNotice, this]
  · split at hy <;> cases hy
    intro c hc hpast
    have hc' : e.held = some c := hc
    have hpast' : belowCutoff e.lastIndex c.call = false := hpast
    have := h c hc hpast
    simp [EntryNotice.stopAfter, serviceNotice, Entry.remade, hc', hpast', this]
  · split at hy
    · cases hy
    · next x hx =>
      split at hy <;> cases hy
      intro c hc hpast
      obtain rfl := Option.some_inj.1 hc
      exact h x hx hpast

/-- Service actions keep the ranges (R66 to R68). -/
theorem Entry.RangesLawful.served {e y : Entry} (h : e.RangesLawful) {a : ServiceAction} {cause : NoticeCause}
    (hy : e.service a = some (y, cause)) : y.RangesLawful := by
  unfold Entry.service at hy
  split at hy
  · split at hy <;> cases hy
    all_goals exact ⟨h.route, h.index, h.time, h.arrival, h.delay, h.forecast, h.waiting, h.idle⟩
  · split at hy <;> cases hy
    exact ⟨h.route, h.index, h.time, h.arrival, h.delay, h.forecast, h.waiting, h.idle⟩
  · split at hy
    · cases hy
    · next x hx =>
      split at hy <;> cases hy
      refine ⟨fun c hc => ?_, h.index, h.time, h.arrival, h.delay, h.forecast, h.waiting, h.idle⟩
      obtain rfl := Option.some_inj.1 hc
      exact h.route x hx

/-- The ranges of an entry and the law of its stop request, as one law that every act on an entry keeps. -/
theorem entryLaw_ranges : EntryLaw fun _ _ e => e.RangesLawful ∧ e.StopLawful where
  touched h := ⟨⟨h.1.route, h.1.index, h.1.time, h.1.arrival, h.1.delay, h.1.forecast, h.1.waiting, h.1.idle⟩, h.2⟩
  aged h := by
    unfold Entry.aged
    split
    · exact ⟨⟨h.1.route, h.1.index, h.1.time, h.1.arrival, h.1.delay, h.1.forecast, h.1.waiting, Nat.zero_le _⟩, h.2⟩
    · exact ⟨⟨h.1.route, h.1.index, h.1.time, h.1.arrival, h.1.delay, h.1.forecast, h.1.waiting, Nat.min_le_left _ _⟩, h.2⟩
  raised n b h :=
    ⟨⟨h.1.route, h.1.index, h.1.time, h.1.arrival, h.1.delay, h.1.forecast, Nat.min_le_left _ _, h.1.idle⟩, h.2⟩
  unwatched h := ⟨⟨h.1.route, h.1.index, h.1.time, h.1.arrival, h.1.delay, h.1.forecast, h.1.waiting, h.1.idle⟩, h.2⟩
  lowered n h :=
    ⟨⟨h.1.route, h.1.index, h.1.time, h.1.arrival, h.1.delay, h.1.forecast, (Nat.sub_le _ _).trans h.1.waiting, h.1.idle⟩, h.2⟩
  stopped s hs h := by
    refine ⟨h.1.withStop s, Entry.stopLawful_iff.2 fun c hc hpast => ?_⟩
    by_contra hp
    rcases hs (Bool.eq_true_of_not_eq_false hp) with hp' | hbelow
    · exact absurd (Entry.stopLawful_iff.1 h.2 c hc hpast) (by simp [hp'])
    · exact Bool.noConfusion ((hbelow c hc).symm.trans hpast)
  recomputed d tick e h := by
    refine ⟨h.1.recomputed d tick, ?_⟩
    have hcore := d.recomputedEntry_core tick e
    exact (show (d.recomputedEntry tick e).core.StopLawful by rw [hcore]; exact h.2)
  fresh t x held hv :=
    ⟨⟨fun c hc => (hv c hc).length.2, nofun, nofun, nofun, nofun, nofun, Nat.zero_le _, Nat.zero_le _⟩, fun _ _ _ => ⟨nofun, nofun⟩⟩
  reported d _ own point time ev _ h := ⟨(h.1.reported own point time ev).noticed d _, h.2.reported d _ _ ev⟩
  served d _ _ _ _ hy h := ⟨(h.1.served hy).noticed d _, h.2.served d hy⟩
  clock _ h := h
  settings d _ e h := by
    refine ⟨h.1.recomputed d false, ?_⟩
    have hcore := d.recomputedEntry_core false e
    exact (show (d.recomputedEntry false e).core.StopLawful by rw [hcore]; exact h.2)

/-- Settles O45: the table's bounds, the ranges and the cutoff are laws of single entries beside the order of the trains, and every
act on an entry keeps them. -/
theorem runningTableStaysLawful : Obligations.RunningTableStaysLawful := by
  unfold Obligations.RunningTableStaysLawful
  intro s t htt htable hstops hranges hstep
  have hsound : s.dev.TableSound fun _ _ e => e.RangesLawful ∧ e.StopLawful :=
    ⟨htt.callsValid, htable, fun e he => ⟨hranges e he, hstops e he⟩⟩
  have hnext := (Device.TableSound.kept entryLaw_ranges).step hsound hstep
  exact ⟨hnext.table, fun e he => (hnext.entries e he).2, fun e he => (hnext.entries e he).1⟩

/-! ## Forecasts (R76, R78, R81) -/

/-- What the law of an entry's forecast says of the rest of the entry: what a recompute needs (R61 to R63, R76, R78). -/
structure Entry.ForecastReady (clock : ClockState) (e : Entry) : Prop where
  unset : clock = .unset → e.forecast = none
  scheduled : ∀ h, e.held = some h → h.call.schedDep ≤ 86399
  reported : ∀ h, e.held = some h → e.effectiveState = .running ∨ e.effectiveState = .approaching →
    ∃ k r d, e.lastIndex = some (k + 1) ∧ h.call.route[k]? = some r ∧ e.delay = some d ∧ d ≤ 21600
  arrived : ∀ h, e.held = some h → e.effectiveState = .atHalt → e.haltArrival ≠ none

theorem Entry.ForecastLawful.ready {c : ClockState} {E : Nat} {e : Entry} (h : e.ForecastLawful c E) : e.ForecastReady c :=
  ⟨h.unset, h.scheduled, h.reported, h.arrived⟩

/-- An entry ready for it and in one of the four states has a forecast delay in range (R78). -/
theorem Entry.ForecastReady.delay {c : ClockState} {e : Entry} (h : e.ForecastReady c) (early : Nat) {x : HeldCall} (hx : e.held = some x)
    (hs : e.state = .expected ∨ e.state = .running ∨ e.state = .approaching ∨ e.state = .atHalt) :
    ∃ f, e.forecastDelay early x.call = some f ∧ -(early : Int) ≤ f ∧ f ≤ 21600 := by
  have hreport : e.effectiveState = .running ∨ e.effectiveState = .approaching →
      ∃ f m, e.delay = some f ∧ e.lastIndex.bind x.call.marginAt = some m ∧ f ≤ 21600 := fun heff => by
    obtain ⟨k, r, f, hk, hr, hf, hle⟩ := h.reported x hx heff
    exact ⟨f, r.margin, hf, by simp [hk, CallRec.marginAt, hr], hle⟩
  unfold Entry.forecastDelay
  rcases hs with hs | hs | hs | hs
  · exact ⟨0, by rw [hs], by omega, by omega⟩
  · obtain ⟨f, m, hf, hm, hle⟩ := hreport (.inl (by unfold Entry.effectiveState; rw [hs]))
    refine ⟨_, by rw [hs, hf, hm], ?_⟩
    unfold delayFromReport
    split_ifs <;> omega
  · obtain ⟨f, m, hf, hm, hle⟩ := hreport (.inr (by unfold Entry.effectiveState; rw [hs]))
    refine ⟨_, by rw [hs, hf, hm], ?_⟩
    unfold delayFromReport
    split_ifs <;> omega
  · obtain ⟨t, ht⟩ := Option.ne_none_iff_exists'.1 (h.arrived x hx (by unfold Entry.effectiveState; rw [hs]))
    refine ⟨_, by rw [hs, ht]; rfl, ?_⟩
    dsimp only
    unfold delayAtHalt
    omega

/-- A recompute makes the forecast of a ready entry lawful, whatever it was (R76, R78, R80, R81). -/
theorem Entry.ForecastReady.recomputed {e : Entry} {d : Device} (h : e.ForecastReady d.clock.state) (tick : Bool) :
    (d.recomputedEntry tick e).ForecastLawful d.clock.state d.halt.early := by
  have hcore := d.recomputedEntry_core tick e
  have hfield : ∀ {β : Type} (g : Entry → β), (∀ x, g x.core = g x) → g (d.recomputedEntry tick e) = g e := fun g hg => by
    rw [← hg, hcore, hg]
  have hheld := hfield Entry.held fun _ => rfl
  have hstate := hfield Entry.state fun _ => rfl
  have heff := hfield Entry.effectiveState fun _ => rfl
  refine ⟨fun hu => ?_, ?_, ?_, ?_, fun x f hx hf hs => ?_⟩
  · have hscope : e.inScope d.clock.state = false := by simp [Entry.inScope, hu]
    unfold Device.recomputedEntry
    rw [hscope]
    exact h.unset hu
  · rw [hheld]; exact h.scheduled
  · rw [hheld, heff, hfield Entry.lastIndex fun _ => rfl, hfield Entry.delay fun _ => rfl]; exact h.reported
  · rw [hheld, heff, hfield Entry.haltArrival fun _ => rfl]; exact h.arrived
  · rw [hheld] at hx
    rw [hstate] at hs
    obtain ⟨r, hr, hlo, hhi⟩ := h.delay d.halt.early hx hs
    by_cases hu : d.clock.state = .unset
    · have hscope : e.inScope d.clock.state = false := by simp [Entry.inScope, hu]
      unfold Device.recomputedEntry at hf
      rw [hscope, if_neg (by simp), h.unset hu] at hf
      cases hf
    · have hscope : e.inScope d.clock.state = true := by
        simp only [Entry.inScope, Entry.listed, hx, Option.isSome_some, Bool.and_eq_true, Bool.or_eq_true, beq_iff_eq, bne_iff_ne,
          ne_eq, hu, not_false_eq_true, true_and]
        rcases hs with hs | hs | hs | hs <;> simp [hs]
      unfold Device.recomputedEntry Device.recomputeResult at hf
      rw [hscope, if_pos rfl] at hf
      obtain ⟨fc, hfc, hdelay, hdep, -⟩ := Entry.recompute_forecast hx hr d.halt.dwell (d.entryTime e) tick
      obtain rfl := Option.some_inj.1 (hf.symm.trans hfc)
      rw [hdelay, hdep]
      exact ⟨hlo, hhi, fun hk => Entry.scheduled_le_forecastDeparture _ _ _ _ (h.scheduled x hx) fun hp => absurd hp hk⟩

/-- Entries alike in what the law reads. -/
theorem Entry.ForecastLawful.forecasted {e : Entry} {d : Device} (h : e.ForecastLawful d.clock.state d.halt.early) (n : EntryNotice) :
    (d.forecasted n e).ForecastLawful d.clock.state d.halt.early := by
  unfold Device.forecasted
  split
  · exact h.ready.recomputed false
  · exact h

/-- The stop request is no matter to the forecast. -/
theorem Entry.ForecastLawful.withStop {c : ClockState} {E : Nat} {e : Entry} (h : e.ForecastLawful c E) (s : StopState) :
    (e.withStop s).ForecastLawful c E := ⟨h.unset, h.scheduled, h.reported, h.arrived, h.bounds⟩

/-- A state move to a state that the entry has the report for keeps the law (R61, R63). -/
theorem Entry.ForecastLawful.moveTo {c : ClockState} {E : Nat} {x : Entry} {s : RunState} (hs : s ≠ .cancelled)
    (hunset : c = .unset → x.forecast = none) (hscheduled : ∀ h, x.held = some h → h.call.schedDep ≤ 86399)
    (hreported : ∀ h, x.held = some h → s = .running ∨ s = .approaching →
      ∃ k r d, x.lastIndex = some (k + 1) ∧ h.call.route[k]? = some r ∧ x.delay = some d ∧ d ≤ 21600)
    (harrived : s = .atHalt → x.haltArrival ≠ none)
    (hbounds : x.state ≠ .cancelled → ∀ h f, x.held = some h → x.forecast = some f →
      -(E : Int) ≤ f.delay ∧ f.delay ≤ 21600 ∧ (h.call.kind ≠ .pass → h.call.schedDep ≤ f.departure)) :
    (x.moveTo s).ForecastLawful c E := by
  unfold Entry.moveTo
  split
  · next hx =>
    have heff : Entry.effectiveState { x with beforeCancel := some s } = s := by unfold Entry.effectiveState; rw [hx]; rfl
    refine ⟨hunset, hscheduled, ?_, ?_, fun _ _ _ _ hfour => ?_⟩
    · rw [heff]; exact hreported
    · rw [heff]; exact fun _ _ => harrived
    · have hfour : x.state = .expected ∨ x.state = .running ∨ x.state = .approaching ∨ x.state = .atHalt := hfour
      simp [hx] at hfour
  · next hx =>
    have heff : Entry.effectiveState { x with state := s } = s := by
      unfold Entry.effectiveState
      cases s with
      | cancelled => exact absurd rfl hs
      | expected | running | approaching | atHalt | departed | passed => rfl
    refine ⟨hunset, hscheduled, ?_, ?_, fun h f hh hf _ => hbounds hx h f hh hf⟩
    · rw [heff]; exact hreported
    · rw [heff]; exact fun _ _ => harrived

/-- An entry that runs is in one of the four states, or cancelled (R63). -/
theorem Entry.runs_four {e : Entry} (h : e.effectiveState ≠ .departed ∧ e.effectiveState ≠ .passed) (hc : e.state ≠ .cancelled) :
    e.state = .expected ∨ e.state = .running ∨ e.state = .approaching ∨ e.state = .atHalt := by
  unfold Entry.effectiveState at h
  cases hs : e.state <;> simp_all

/-- A report leaves an entry what the law of its forecast asks (R61, R62). -/
theorem Entry.ForecastLawful.afterReport {c : ClockState} {E : Nat} {e : Entry} (h : e.ForecastLawful c E) {own point : Nat} {ev : RunEvent}
    (hj : e.judge own point ev ≠ .touchOnly) (t : Nat) : (e.report (e.judge own point ev) t ev).ForecastLawful c E := by
  have hbounds : e.state ≠ .cancelled → ∀ x f, e.held = some x → e.forecast = some f →
      -(E : Int) ≤ f.delay ∧ f.delay ≤ 21600 ∧ (x.call.kind ≠ .pass → x.call.schedDep ≤ f.departure) := fun hs x f hx hf =>
    h.bounds x f hx hf (Entry.runs_four (Entry.judge_runs hj) hs)
  unfold Entry.report
  cases hjudge : e.judge own point ev with
  | touchOnly => exact absurd hjudge hj
  | away =>
    have hnone := Entry.judge_away hjudge
    exact .moveTo nofun h.unset h.scheduled (fun x hx => absurd (hnone.symm.trans hx) nofun) nofun hbounds
  | route k pt =>
    obtain ⟨x, i, hx, rfl, hi⟩ := Entry.judge_route hjudge
    have hs : e.routeState (1 + i) ≠ .cancelled ∧ e.routeState (1 + i) ≠ .atHalt := by
      unfold Entry.routeState
      split <;> exact ⟨nofun, nofun⟩
    refine .moveTo hs.1 h.unset h.scheduled (fun y hy _ => ?_) (fun hat => absurd hat hs.2) hbounds
    obtain rfl := Option.some_inj.1 (hx.symm.trans hy)
    exact ⟨i, pt, _, by rw [Nat.add_comm], hi, rfl, by unfold clampDelay; omega⟩
  | halt =>
    have hs : ev.haltState ≠ .cancelled ∧ ev.haltState ≠ .running ∧ ev.haltState ≠ .approaching := by
      cases ev <;> exact ⟨nofun, nofun, nofun⟩
    refine .moveTo hs.1 h.unset h.scheduled (fun _ _ hrun => absurd hrun (not_or.2 hs.2)) (fun hat => ?_) hbounds
    have harrived : ev = .arrived := by cases ev with
      | arrived => rfl
      | departed | passed => exact absurd hat nofun
    simp [harrived]

/-- A service action leaves an entry what a recompute needs; all but a REINSTATE leave the law itself (R66 to R68). -/
theorem Entry.ForecastLawful.served {c : ClockState} {E : Nat} {e y : Entry} (h : e.ForecastLawful c E) {a : ServiceAction}
    {cause : NoticeCause} (hy : e.service a = some (y, cause)) :
    (cause = .reinstate ∧ y.ForecastReady c) ∨ (cause.recomputes = false ∧ y.ForecastLawful c E) := by
  unfold Entry.service at hy
  split at hy
  · have hcancel : y = { e with state := .cancelled, beforeCancel := some e.state } ∧ cause = .cancel ∧ e.effectiveState = e.state := by
      unfold Entry.effectiveState
      split at hy <;> cases hy
      all_goals
        next hs => exact ⟨rfl, rfl, by rw [hs]⟩
    obtain ⟨rfl, rfl, heff⟩ := hcancel
    have heff' : Entry.effectiveState { e with state := .cancelled, beforeCancel := some e.state } = e.effectiveState := heff.symm
    refine .inr ⟨rfl, h.unset, h.scheduled, ?_, ?_, fun _ _ _ _ hfour => ?_⟩
    · rw [heff']; exact h.reported
    · rw [heff']; exact h.arrived
    · rcases hfour with hf | hf | hf | hf <;> cases hf
  · split at hy <;> cases hy
    next s hs hb =>
    have heff : Entry.effectiveState { e with state := s, beforeCancel := none } = e.effectiveState := by
      unfold Entry.effectiveState
      rw [hs, hb]
      cases s <;> rfl
    refine .inl ⟨rfl, h.unset, h.scheduled, ?_, ?_⟩
    · rw [heff]; exact h.reported
    · rw [heff]; exact h.arrived
  · split at hy
    · cases hy
    · next x hx =>
      split at hy <;> cases hy
      refine .inr ⟨rfl, h.unset, fun z hz => ?_, fun z hz => ?_, fun z hz => ?_, fun z f hz => ?_⟩
      all_goals obtain rfl := Option.some_inj.1 hz
      · exact h.scheduled x hx
      · exact h.reported x hx
      · exact h.arrived x hx
      · exact h.bounds x f hx

/-- The law of an entry's forecast is one that every act on an entry keeps. -/
theorem entryLaw_forecasts : EntryLaw fun c E e => e.ForecastLawful c E where
  touched h := ⟨h.unset, h.scheduled, h.reported, h.arrived, h.bounds⟩
  aged h := by
    unfold Entry.aged
    split <;> exact ⟨h.unset, h.scheduled, h.reported, h.arrived, h.bounds⟩
  raised _ _ h := ⟨h.unset, h.scheduled, h.reported, h.arrived, h.bounds⟩
  unwatched h := ⟨h.unset, h.scheduled, h.reported, h.arrived, h.bounds⟩
  lowered _ h := ⟨h.unset, h.scheduled, h.reported, h.arrived, h.bounds⟩
  stopped s _ h := h.withStop s
  recomputed _ tick _ h := h.ready.recomputed tick
  fresh t x held hv := by
    refine ⟨fun _ => rfl, fun h hh => (hv h hh).times.2.2, fun _ _ hs => ?_, fun _ _ hs => ?_, fun _ _ _ hf => ?_⟩
    · rcases hs with hs | hs <;> cases hs
    · cases hs
    · cases hf
  reported _ _ _ _ _ _ hj h := ((h.afterReport hj _).forecasted _).withStop _
  served d e y a cause hy h := by
    refine Entry.ForecastLawful.withStop ?_ _
    rcases h.served hy with ⟨rfl, hready⟩ | ⟨-, hlawful⟩
    · exact hready.recomputed false
    · exact hlawful.forecasted _
  clock hc h := ⟨fun hu => h.unset (hc hu), h.scheduled, h.reported, h.arrived, h.bounds⟩
  settings _ _ _ h := h.ready.recomputed false

/-- Settles O46: a report or a service action leaves an entry what a recompute needs, and a recompute makes the forecast lawful. -/
theorem forecastsStayLawful : Obligations.ForecastsStayLawful := by
  unfold Obligations.ForecastsStayLawful
  intro s t htt htable hforecasts hstep
  exact ((Device.TableSound.kept entryLaw_forecasts).step ⟨htt.callsValid, htable, hforecasts⟩ hstep).entries

end Sys2Proof.Machine

/-! # The slots of the line, and a STOPACK -/

namespace Sys2Proof.Machine

/-! ## Withdrawals and selections on the slots (R42, R48, R100) -/

/-- The two slots never hold one train (R42). -/
def Line.Apart (l : Line) : Prop := ∀ a b, l.slot0 = some a → l.slot1 = some b → a.train ≠ b.train

/-- No slot holds a frame of train `t` that has not begun. -/
def Line.Begun (t : Nat) (l : Line) : Prop := ∀ k f, l.slot k = some f → f.train = t → f.begun = true

/-- `l'` is `l` but for what its slots hold. -/
def Line.SlotsOnly (l l' : Line) : Prop := l' = { l with slot0 := l'.slot0, slot1 := l'.slot1 }

theorem Line.Lawful.apart {l : Line} (h : l.Lawful) : l.Apart := fun a b ha hb => (h.differ a b ha hb).1

theorem Line.SlotsOnly.trans {l m n : Line} (h1 : l.SlotsOnly m) (h2 : m.SlotsOnly n) : l.SlotsOnly n := by
  unfold Line.SlotsOnly at *
  rw [h1] at h2
  exact h2

/-- What the slots hold says whether a train's frames have begun. -/
theorem Line.begun_iff {t : Nat} {l : Line} : l.Begun t ↔ (∀ f, l.slot0 = some f → f.train = t → f.begun = true) ∧
    ∀ f, l.slot1 = some f → f.train = t → f.begun = true :=
  ⟨fun h => ⟨h .s0, h .s1⟩, fun h k => match k with | .s0 => h.1 | .s1 => h.2⟩

theorem slotHolds_iff {t : Nat} {x : Option TxFrame} : slotHolds t x = true ↔ ∃ f, x = some f ∧ f.train = t := by
  unfold slotHolds
  simp [Option.any_eq_true]

/-- A frame no longer the later one is of the same train, begun or not. -/
theorem notLater_eq_some {x : Option TxFrame} {f : TxFrame} (h : notLater x = some f) :
    ∃ g, x = some g ∧ f.train = g.train ∧ f.begun = g.begun := by
  obtain ⟨g, hg, rfl⟩ := Option.map_eq_some_iff.1 h
  exact ⟨g, hg, rfl, rfl⟩

/-- An ask is refused, or its frame goes into a free slot of a line that does not hold the train (R42). -/
theorem Line.ask_cases (l : Line) (t p w : Nat) :
    l.ask t p w = l ∨ (slotHolds t l.slot0 = false ∧ slotHolds t l.slot1 = false ∧ ∃ f : TxFrame, f.train = t ∧ f.begun = false ∧
      ((l.slot0 = none ∧ l.ask t p w = { l with slot0 := some f, slot1 := notLater l.slot1 }) ∨
        (l.slot1 = none ∧ l.ask t p w = { l with slot1 := some f, slot0 := notLater l.slot0 }))) := by
  unfold Line.ask Line.answer
  split_ifs with hdown hheld h0 h1
  · exact .inl rfl
  · exact .inl rfl
  all_goals rw [Bool.or_eq_true, not_or, Bool.not_eq_true, Bool.not_eq_true] at hheld
  · exact .inr ⟨hheld.1, hheld.2, _, rfl, rfl, .inl ⟨Option.isNone_iff_eq_none.1 h0, rfl⟩⟩
  · exact .inr ⟨hheld.1, hheld.2, _, rfl, rfl, .inr ⟨Option.isNone_iff_eq_none.1 h1, rfl⟩⟩
  · exact .inl rfl

theorem Line.ask_slotsOnly (l : Line) (t p w : Nat) : l.SlotsOnly (l.ask t p w) := by
  rcases l.ask_cases t p w with h | ⟨-, -, f, -, -, ⟨-, h⟩ | ⟨-, h⟩⟩ <;> rw [h] <;> rfl

/-- An ask keeps the slots of different trains. -/
theorem Line.Apart.ask {l : Line} (h : l.Apart) (t p w : Nat) : (l.ask t p w).Apart := by
  have hnot : ∀ {x : Option TxFrame} {g : TxFrame}, slotHolds t x = false → notLater x = some g → g.train ≠ t := fun hx hg ht => by
    obtain ⟨g', hg', htrain, -⟩ := notLater_eq_some hg
    rw [slotHolds_iff.2 ⟨g', hg', htrain.symm.trans ht⟩] at hx
    cases hx
  rcases l.ask_cases t p w with he | ⟨h0, h1, f, rfl, -, ⟨-, he⟩ | ⟨-, he⟩⟩ <;> rw [he]
  · exact h
  · intro a b ha hb
    obtain rfl := Option.some_inj.1 ha
    exact (hnot h1 hb).symm
  · intro a b ha hb
    obtain rfl := Option.some_inj.1 hb
    exact hnot h0 ha

/-- An ask for another train brings no frame of train `t`. -/
theorem Line.Begun.ask {l : Line} {t m : Nat} (h : l.Begun t) (hm : m ≠ t) (p w : Nat) : (l.ask m p w).Begun t := by
  have hkept : ∀ {x : Option TxFrame}, (∀ f, x = some f → f.train = t → f.begun = true) →
      ∀ f, notLater x = some f → f.train = t → f.begun = true := fun hx f hf ht => by
    obtain ⟨g, hg, htrain, hbegun⟩ := notLater_eq_some hf
    exact hbegun.trans (hx g hg (htrain.symm.trans ht))
  obtain ⟨h0, h1⟩ := Line.begun_iff.1 h
  rcases l.ask_cases m p w with he | ⟨-, -, f, rfl, -, ⟨-, he⟩ | ⟨-, he⟩⟩ <;> rw [he]
  · exact h
  · exact Line.begun_iff.2 ⟨fun g hg ht => absurd (Option.some_inj.1 hg ▸ ht) hm, hkept h1⟩
  · exact Line.begun_iff.2 ⟨hkept h0, fun g hg ht => absurd (Option.some_inj.1 hg ▸ ht) hm⟩

/-- The asks of a selection keep what each ask keeps. -/
theorem askAll_induction {P : Line → Prop} {p : Nat} {es : List Entry} {l : Line} (h : P l)
    (hask : ∀ e ∈ es, ∀ l, P l → P (l.ask e.train p e.waiting)) : P (askAll p es l) := by
  induction es generalizing l with
  | nil => exact h
  | cons e es ih =>
    have hrest : ∀ x ∈ es, ∀ l, P l → P (l.ask x.train p x.waiting) := fun x hx => hask x (List.mem_cons_of_mem e hx)
    unfold askAll
    split
    · exact ih (hask e List.mem_cons_self l h) hrest
    · exact ih h hrest
    · exact h
    · exact h

/-- A selection keeps what the asks for eligible requests keep. -/
theorem Device.selection_induction {P : Line → Prop} {d : Device} (h : P d.line)
    (hask : ∀ e ∈ d.table.entries, e.eligible = true → ∀ l, P l → P (l.ask e.train d.halt.ownPoint e.waiting)) : P d.selection.line := by
  unfold Device.selection
  show P (if _ then _ else _)
  split
  · exact h
  · refine askAll_induction h fun e he => ?_
    obtain ⟨hmem, heligible⟩ := List.mem_filter.1 ((sortBy_perm _ _).mem_iff.1 he)
    exact hask e hmem heligible

theorem Device.selection_slotsOnly (d : Device) : d.line.SlotsOnly d.selection.line :=
  Device.selection_induction (P := d.line.SlotsOnly) rfl fun _ _ _ l h => h.trans (l.ask_slotsOnly _ _ _)

/-- A withdrawal empties at most the slot of the train, and that only where its frame has not begun (R48). -/
theorem Line.withdraw_cases (l : Line) (t : Nat) :
    (l.withdraw t = l ∧ (l.Apart → l.Begun t)) ∨
      ∃ k f, l.slot k = some f ∧ f.train = t ∧ f.begun = false ∧ l.withdraw t = l.setSlot k none := by
  have hheld : ∀ k, l.slotOf t = some k → ∃ f, l.slot k = some f ∧ f.train = t := fun k hk => by
    unfold Line.slotOf at hk
    split_ifs at hk with h0 h1 <;> cases hk
    · exact slotHolds_iff.1 h0
    · exact slotHolds_iff.1 h1
  unfold Line.withdraw Line.withdrawAnswer
  cases hs : l.slotOf t with
  | none =>
    refine .inl ⟨rfl, fun _ => Line.begun_iff.2 ?_⟩
    unfold Line.slotOf at hs
    split_ifs at hs with h0 h1
    exact ⟨fun f hf ht => absurd (slotHolds_iff.2 ⟨f, hf, ht⟩) h0, fun f hf ht => absurd (slotHolds_iff.2 ⟨f, hf, ht⟩) h1⟩
  | some k =>
    obtain ⟨f, hf, htrain⟩ := hheld k hs
    dsimp only
    rw [hf]
    cases hb : f.begun with
    | false => exact .inr ⟨k, f, hf, htrain, hb, by simp [hb]⟩
    | true =>
      refine .inl ⟨by simp [hb], fun hapart j g hg hgt => ?_⟩
      have hone : ∀ a b, l.slot0 = some a → l.slot1 = some b → a.train = t → b.train ≠ t := fun a b ha hb hat hbt =>
        hapart a b ha hb (hat.trans hbt.symm)
      match j, k with
      | .s0, .s0 | .s1, .s1 => rwa [Option.some_inj.1 (hg.symm.trans hf)]
      | .s0, .s1 => exact absurd htrain (hone g f hg hf hgt)
      | .s1, .s0 => exact absurd hgt (hone f g hf hg htrain)

theorem Line.withdraw_slotsOnly (l : Line) (t : Nat) : l.SlotsOnly (l.withdraw t) := by
  rcases l.withdraw_cases t with ⟨h, -⟩ | ⟨k, f, -, -, -, h⟩ <;> rw [h]
  · rfl
  · cases k <;> rfl

/-- A slot emptied brings no frame. -/
theorem Line.setSlot_none {l : Line} {k j : SlotId} {f : TxFrame} (h : (l.setSlot k none).slot j = some f) : l.slot j = some f ∧ j ≠ k := by
  match k, j with
  | .s0, .s0 | .s1, .s1 => cases h
  | .s0, .s1 | .s1, .s0 => exact ⟨h, nofun⟩

theorem Line.Apart.withdraw {l : Line} (h : l.Apart) (t : Nat) : (l.withdraw t).Apart := by
  rcases l.withdraw_cases t with ⟨he, -⟩ | ⟨k, f, -, -, -, he⟩ <;> rw [he]
  · exact h
  · exact fun a b ha hb => h a b (Line.setSlot_none (j := .s0) ha).1 (Line.setSlot_none (j := .s1) hb).1

/-- A withdrawal brings no frame of any train. -/
theorem Line.Begun.withdraw {l : Line} {t : Nat} (h : l.Begun t) (m : Nat) : (l.withdraw m).Begun t := by
  rcases l.withdraw_cases m with ⟨he, -⟩ | ⟨k, f, -, -, -, he⟩ <;> rw [he]
  · exact h
  · exact fun j g hg ht => h j g (Line.setSlot_none hg).1 ht

/-- After a withdrawal the train's frames left have begun (R48). -/
theorem Line.withdraw_begun {l : Line} (h : l.Apart) (t : Nat) : (l.withdraw t).Begun t := by
  rcases l.withdraw_cases t with ⟨he, hbegun⟩ | ⟨k, f, hf, htrain, -, he⟩ <;> rw [he]
  · exact hbegun h
  · intro j g hg ht
    obtain ⟨hg, hjk⟩ := Line.setSlot_none hg
    match j, k with
    | .s0, .s0 | .s1, .s1 => exact absurd rfl hjk
    | .s0, .s1 => exact absurd (ht.trans htrain.symm) (h g f hg hf)
    | .s1, .s0 => exact absurd (htrain.trans ht.symm) (h f g hf hg)

/-- A withdrawal and the selection after it write the slots alone (R106). -/
theorem Device.withdrawFrame_slotsOnly (d : Device) (t : Nat) : d.line.SlotsOnly (d.withdrawFrame t).line := by
  unfold Device.withdrawFrame Device.when
  split
  · exact (d.line.withdraw_slotsOnly t).trans (Device.selection_slotsOnly _)
  · exact d.line.withdraw_slotsOnly t

/-- A withdrawal keeps the slots of different trains. -/
theorem Device.withdrawFrame_apart {d : Device} (h : d.line.Apart) (t : Nat) : (d.withdrawFrame t).line.Apart := by
  unfold Device.withdrawFrame Device.when
  split
  · exact Device.selection_induction (P := Line.Apart) (h.withdraw t) fun _ _ _ _ h => h.ask _ _ _
  · exact h.withdraw t

/-- After a withdrawal of a train whose request is not eligible, its frames left in the slots have begun (R48, R106). -/
theorem Device.withdrawFrame_begun {d : Device} (h : d.line.Apart) {t : Nat} (ht : ∀ e ∈ d.table.entries, e.eligible = true → e.train ≠ t) :
    (d.withdrawFrame t).line.Begun t := by
  unfold Device.withdrawFrame Device.when
  split
  · exact Device.selection_induction (P := Line.Begun t) (Line.withdraw_begun h t) fun e he hl _ hb => hb.ask (ht e he hl) _ _
  · exact Line.withdraw_begun h t

/-- A withdrawal of another train keeps that the frames of an ineligible one have begun. -/
theorem Device.withdrawFrame_keeps_begun {d : Device} {t : Nat} (h : d.line.Begun t)
    (ht : ∀ e ∈ d.table.entries, e.eligible = true → e.train ≠ t) (m : Nat) : (d.withdrawFrame m).line.Begun t := by
  unfold Device.withdrawFrame Device.when
  split
  · exact Device.selection_induction (P := Line.Begun t) (h.withdraw m) fun e he hl _ hb => hb.ask (ht e he hl) _ _
  · exact h.withdraw m

/-! ## The lamps at a stop notice (R93, R98) -/

theorem Button.withMode_keeps (b : Button) (m : LampMode) :
    (b.withMode m).lamp = m ∧ (b.withMode m).state = b.state ∧ (b.withMode m).chosen = b.chosen := by
  unfold Button.withMode
  split
  · next h => exact ⟨h, rfl, rfl⟩
  · exact ⟨rfl, rfl, rfl⟩

theorem Device.refreshLamps_button (d : Device) (t : Nat) (dir : Direction) :
    (d.refreshLamps t).button dir = d.lampAfresh t (d.button dir) := by
  cases dir <;> rfl

/-- The buttons after a change of a stop state: the lamp that follows the train is worked out from its entry (R98). -/
theorem Device.setStop_button {d : Device} {t : Nat} {e : Entry} (he : d.entry? t = some e) {s : StopState} (hs : e.stop ≠ s)
    (dir : Direction) :
    (d.setStop t s).button dir =
      if (d.button dir).chosen = some t then (d.button dir).withMode (e.withStop s).lampMode else d.button dir := by
  have hfind : (d.updateEntry t fun x => { x with stop := s }).entry? t = some (e.withStop s) := by
    rw [(Device.Writes.updateEntry d (g := fun x => { x with stop := s }) fun _ h => h).mine, he]
    rfl
  have hbutton : ∀ x : Device, x.sru = d.sru → x.entry? t = some (e.withStop s) → ((x.refreshLamps t).recomposeFor t).button dir =
      if (d.button dir).chosen = some t then (d.button dir).withMode (e.withStop s).lampMode else d.button dir := fun x hsru hx => by
    have hb : x.button dir = d.button dir := by cases dir <;> simp only [Device.button, hsru]
    have hr : ((x.refreshLamps t).recomposeFor t).button dir = (x.refreshLamps t).button dir := by
      cases dir <;> simp only [Device.button, Device.recomposeFor_frame]
    rw [hr, Device.refreshLamps_button, hb]
    unfold Device.lampAfresh Device.lampModeFor
    split
    · next hc => rw [hc, Option.bind_some, hx]; rfl
    · rfl
  unfold Device.setStop
  rw [he]
  dsimp only
  rw [if_neg hs]
  refine hbutton _ (by simp only [Device.setFlagIf_frame]; rfl) ?_
  rw [← hfind]
  unfold Device.entry?
  simp only [Device.setFlagIf_frame]

/-- A watched sale is told of a change that leaves or enters the states in progress (R93). -/
theorem Device.setStop_told {d : Device} {t : Nat} {e : Entry} (he : d.entry? t = some e) {s : StopState} (hs : e.stop ≠ s)
    (hw : e.saleWatch = true) (hp : (e.stop.inProgress && s.inProgress) = false) :
    (d.setStop t s).hasFlag .stopStateChanged = true := by
  unfold Device.setStop
  rw [he]
  dsimp only
  rw [if_neg hs]
  unfold Device.stopNotice
  refine Device.FlagsKept.recomposeFor _ t _ (Device.FlagsKept.refreshLamps _ t _ ?_)
  rw [hw, hp]
  exact Device.hasFlag_setFlag _ _

/-! ## A STOPACK (R104) -/

/-- A STOPACK for this halt of a train number in range is taken (R39). -/
theorem Device.dispatch_stopack {d : Device} {train : BitVec 14} {point : BitVec 11} {data : List Byte}
    (hn : 1 ≤ train.toNat ∧ train.toNat ≤ 9999) (hp : point.toNat = d.halt.ownPoint) :
    d.dispatch { kind := 5, train := train, point := point, data := data } = d.stopAckFrame train.toNat := by
  have hguard : (trainOk train.toNat && point.toNat == d.halt.ownPoint) = true := by
    rw [Bool.and_eq_true, trainOk_iff, beq_iff_eq]
    exact ⟨hn, hp⟩
  exact if_pos hguard

theorem exec_stopack {s : State} {train : BitVec 14} {point : BitVec 11} {data : List Byte} {f : LineFrame}
    (hf : f = { kind := 5, train := train, point := point, data := data }) (hh : s.dev.Hears f)
    (hn : 1 ≤ train.toNat ∧ train.toNat ≤ 9999) (hp : point.toNat = s.dev.halt.ownPoint) :
    exec (.stopack train point data) s = .next ((s.heard f).becomes ((s.heard f).dev.stopAckFrame train.toNat)) := by
  subst hf
  have hexec : exec (.stopack train point data) s =
      .next { s with dev := s.dev.lineEvent { kind := 5, train := train, point := point, data := data } } := rfl
  rw [hexec, hh.lineEvent, Device.dispatch_stopack hn (by exact hp)]
  rfl

/-- A change of the entry of a train without one changes nothing. -/
theorem Device.updateEntry_of_none {d : Device} {t : Nat} (hn : d.entry? t = none) (g : Entry → Entry) : d.updateEntry t g = d := by
  have hmap : d.table.entries.map (fun x => if x.train == t then g x else x) = d.table.entries :=
    (List.map_congr_left fun x hx => if_neg (by simpa using Device.entry?_eq_none.1 hn x hx)).trans (List.map_id _)
  unfold Device.updateEntry
  rw [hmap]

/-- A touch marks the entry of the train (R59, R69). -/
theorem Device.touch_writes (d : Device) (t : Nat) : d.Writes t (fun e => { e with touched := true }) (d.touch t) :=
  .updateEntry d fun _ h => h

/-- A STOPACK of a train without an entry, or with one that it does not confirm, is a touch (R69, R104). -/
theorem Device.stopAckFrame_touch {d : Device} {t : Nat}
    (h : ∀ e, d.entry? t = some e → e.state = .departed ∨ e.state = .passed ∨ e.stop = .none ∨ e.stop = .confirmed) :
    d.stopAckFrame t = d.touch t := by
  unfold Device.stopAckFrame Device.takeStopAck
  rw [(d.touch_writes t).mine]
  cases he : d.entry? t with
  | none => rfl
  | some e => exact if_pos (h e he)

/-- A STOPACK of a train with a request to confirm (R104). -/
theorem Device.stopAckFrame_confirms {d : Device} {t : Nat} {e : Entry} (he : d.entry? t = some e) (hd : e.state ≠ .departed)
    (hp : e.state ≠ .passed) (hs : e.stop = .pending ∨ e.stop = .sent ∨ e.stop = .unconfirmed) :
    d.stopAckFrame t = ((d.touch t).setStop t .confirmed).when (e.stop == .pending) (Device.withdrawFrame t) := by
  unfold Device.stopAckFrame Device.takeStopAck
  rw [(d.touch_writes t).mine, he]
  exact if_neg fun h => by rcases h with h | h | h | h <;> simp_all

/-- What a STOPACK that confirms a request leaves of the part (R93, R98, R104, R106). -/
theorem Device.confirmed_frame {d e : Device} {t : Nat} {c : Bool}
    (he : e = ((d.touch t).setStop t .confirmed).when c (Device.withdrawFrame t)) :
    e = { d with
      line := { d.line with slot0 := e.line.slot0, slot1 := e.line.slot1 }, table := { d.table with entries := e.table.entries }
      sru := e.sru, board := { d.board with screens := e.board.screens }, ports := e.ports } ∧
    e.ports.quiet = d.ports.quiet := by
  have haside : (d.touch t).Aside t e := by
    rw [he]
    exact (Device.Aside.setStop t _ _).trans (Device.Aside.guarded _ (Device.Aside.withdrawFrame t t _))
  have hline : d.line.SlotsOnly e.line := by
    have hset : ((d.touch t).setStop t .confirmed).line = d.line := by simp only [Device.setStop_frame]; rfl
    rw [he, ← hset]
    unfold Device.when
    split
    · exact Device.withdrawFrame_slotsOnly _ _
    · rfl
  have hcues : e.cues = d.cues := by rw [he]; simp [Device.touch]
  have hco : e.co = d.co := by rw [he]; simp [Device.touch]
  have hsched : e.sched = d.sched := by rw [he]; simp [Device.touch]
  refine ⟨haside.frame.trans ?_, by rw [he]; simp [Device.touch]⟩
  rw [hcues, hco, hsched]
  conv_lhs => rw [show e.line = _ from hline]
  rfl

/-- Settles O43: a STOPACK is a touch, and where it confirms, a stop notice and a withdrawal follow, none of which makes the
train's request eligible again. -/
theorem stopackConfirmsTheRequest : Obligations.StopackConfirmsTheRequest := by
  unfold Obligations.StopackConfirmsTheRequest
  intro s train point data f hf hh h1 h2 hp
  rw [exec_stopack hf hh ⟨h1, h2⟩ hp]
  obtain ⟨d, hd⟩ : ∃ d, d = (s.heard f).dev := ⟨_, rfl⟩
  have hfind : ∀ m, s.dev.entry? m = d.entry? m := fun m => by rw [hd]; rfl
  rw [hfind, ← hd]
  refine ⟨fun hn => ?_, fun e he => ⟨fun hquiet => ?_, fun hdep hpass hstop => ?_⟩⟩
  · rw [Device.stopAckFrame_touch fun e he => absurd (hn.symm.trans he) nofun, Device.touch, Device.updateEntry_of_none hn, hd]
    rfl
  · rw [Device.stopAckFrame_touch fun x hx => Option.some_inj.1 (he.symm.trans hx) ▸ hquiet]
    rfl
  obtain ⟨u, hu⟩ : ∃ u, u = ((d.touch train.toNat).setStop train.toNat .confirmed).when (e.stop == .pending)
      (Device.withdrawFrame train.toNat) := ⟨_, rfl⟩
  rw [Device.stopAckFrame_confirms he hdep hpass hstop, ← hu]
  have htouched : (d.touch train.toNat).entry? train.toNat = some { e with touched := true } := by
    rw [(d.touch_writes _).mine, he]; rfl
  have hset := Device.Takes.setStop train.toNat (d.touch train.toNat) .confirmed
  have htakes : (d.touch train.toNat).Takes train.toNat (fun x => x.withStop .confirmed) (fun _ => []) u := by
    rw [hu]
    exact (hset.trans (.guarded_quiet _ (.withdrawFrame _ _ _))).congr fun _ _ => ⟨rfl, rfl⟩
  have hne : ({ e with touched := true } : Entry).stop ≠ .confirmed := fun h => by
    have h : e.stop = .confirmed := h
    rcases hstop with hs | hs | hs <;> rw [hs] at h <;> cases h
  obtain ⟨hframe, hports⟩ := Device.confirmed_frame hu
  have hbutton : ∀ dir, u.button dir = if (s.dev.button dir).chosen = some train.toNat then
      (s.dev.button dir).withMode (({ e with touched := true } : Entry).withStop .confirmed).lampMode else s.dev.button dir := fun dir => by
    have hsru : u.sru = ((d.touch train.toNat).setStop train.toNat .confirmed).sru := by rw [hu]; simp
    have hsame : (d.touch train.toNat).button dir = s.dev.button dir := by rw [hd]; rfl
    rw [← hsame, ← Device.setStop_button htouched hne]
    cases dir <;> simp only [Device.button, hsru]
  refine ⟨_, rfl, ⟨rfl, ?_⟩, ?_, ?_, fun m hm => ?_, fun dir => ⟨?_, ?_, fun hc => ?_, fun hc => ?_⟩, fun hw => ?_, fun hpend hl ht => ?_⟩
  · exact hports.trans (by rw [hd]; rfl)
  · exact hframe.trans (by rw [hd]; rfl)
  · exact htakes.writes.mine.trans (by rw [htouched]; rfl)
  · exact (htakes.writes.others m hm).trans (((d.touch_writes _).others m hm).trans (hfind m).symm)
  · exact (congrArg Button.state (hbutton dir)).trans (by split <;> simp only [Button.withMode_keeps])
  · exact (congrArg Button.chosen (hbutton dir)).trans (by split <;> simp only [Button.withMode_keeps])
  · refine (congrArg Button.lamp (hbutton dir)).trans ?_
    rw [if_pos hc, (Button.withMode_keeps _ _).1]
    unfold Entry.lampMode Entry.withStop
    cases hs : e.state <;> simp
  · exact (hbutton dir).trans (if_neg hc)
  · have htold := Device.setStop_told htouched hne hw (by simp [StopState.inProgress])
    have hkept := (Device.Takes.guarded_quiet (e.stop == .pending) (.withdrawFrame train.toNat train.toNat _)).flags _ htold
    rw [← hu] at hkept
    exact hkept
  · rw [hpend, BEq.rfl, Device.when, if_pos rfl] at hu
    have hline : ((d.touch train.toNat).setStop train.toNat .confirmed).line.Apart := by
      simp only [Device.setStop_frame]
      rw [hd]
      exact hl.apart
    have hbegun : u.line.Begun train.toNat := by
      rw [hu]
      refine Device.withdrawFrame_begun hline fun x hx heligible hxt => ?_
      have hone := hset.writes.oneEach ((d.touch_writes train.toNat).oneEach (d := d) (by rw [hd]; exact ht.oneEach))
      have hxfind := hone.entry?_eq_some.2 ⟨hx, hxt⟩
      rw [hset.writes.mine, htouched] at hxfind
      obtain rfl := Option.some_inj.1 hxfind
      exact absurd heligible (by simp [Entry.eligible])
    exact fun k g => hbegun k g

end Sys2Proof.Machine

/-! # The sweep: removals and ageing -/

namespace Sys2Proof.Machine

/-! ## One removal (R73, R108, R155) -/

/-- An entry that ends a day's run: DEPARTED, PASSED or CANCELLED, of the date given (R155). -/
def Entry.Ended (x : Date) (e : Entry) : Prop := e.date = x ∧ (e.state = .departed ∨ e.state = .passed ∨ e.state = .cancelled)

/-- From `d` to `e` the entries of `vs` have been removed with their notices: the entries left, the finished set, the slots and the
buttons (R73, R108, R155). -/
structure Device.SweptOf (vs : List Entry) (d e : Device) : Prop where
  frame : e = { d with table := e.table, line := e.line, sru := e.sru, board := e.board, co := e.co, ports := e.ports
                       sched := e.sched }
  ports : e.ports.quiet = d.ports.quiet
  table : e.table = { d.table with entries := d.table.entries.filter fun x => decide (x.train ∉ vs.map Entry.train) }
  finished_from : ∀ x ∈ e.board.finished, x ∈ d.board.finished ∨ ∃ v ∈ vs, v.train = x ∧ v.Ended d.clock.date
  finished_keeps : ∀ x ∈ d.board.finished, x ∈ e.board.finished
  finished_length : d.board.finished.length ≤ e.board.finished.length
  finished_gains : ∀ v ∈ vs, e.board.finished.length < 96 → v.Ended d.clock.date → d.tt.lookup d.clock.date v.train ≠ none →
    v.train ∈ e.board.finished
  apart : d.line.Apart → e.line.Apart
  begun : d.line.Apart → ∀ v ∈ vs, e.line.Begun v.train
  begun_keeps : ∀ m, d.line.Begun m → (∀ x ∈ d.table.entries, x.train ≠ m) → e.line.Begun m
  forgotten : ∀ v ∈ vs, ∀ dir, (e.button dir).chosen ≠ some v.train
  chosen : ∀ dir, (e.button dir).chosen = (d.button dir).chosen ∨ (e.button dir).chosen = none

/-- A part that differs from another in the parts of the board, the line, the table, the buttons, the change-over and the ports. -/
theorem Device.eq_with {d e : Device} (hphase : e.phase = d.phase) (hclock : e.clock = d.clock) (htt : e.tt = d.tt)
    (hfares : e.fares = d.fares) (hsale : e.sale = d.sale) (hjournal : e.journal = d.journal) (hnotices : e.notices = d.notices)
    (hcues : e.cues = d.cues) (hhalt : e.halt = d.halt) :
    e = { d with table := e.table, line := e.line, sru := e.sru, board := e.board, co := e.co, ports := e.ports, sched := e.sched } := by
  rw [← hphase, ← hclock, ← htt, ← hfares, ← hsale, ← hjournal, ← hnotices, ← hcues, ← hhalt]

/-- A REMOVED notice in the Stop Request Unit: the train's frame not begun is withdrawn and no button keeps the train (R108). -/
theorem Device.stopUnit_removed {d : Device} {n : EntryNotice} (hn : n.cause = .removed) :
    (∃ x : Device, x.line = d.line ∧ x.table = d.table ∧ (d.stopUnitNotice n).line = (x.withdrawFrame n.train).line) ∧
      ∀ dir, ((d.stopUnitNotice n).button dir).chosen = ((d.button dir).forget n.train).chosen := by
  have hlamp : ∀ (x : Device) (dir : Direction), ((x.refreshLamps n.train).button dir).chosen = (x.button dir).chosen := fun x dir => by
    rw [Device.refreshLamps_button]
    unfold Device.lampAfresh
    split
    · exact (Button.withMode_keeps _ _).2.2
    · rfl
  unfold Device.stopUnitNotice
  rw [hn]
  refine ⟨⟨{ d with sru := { up := d.sru.up.forget n.train, down := d.sru.down.forget n.train } }, rfl, rfl, rfl⟩,
    fun dir => (hlamp _ dir).trans ?_⟩
  dsimp only
  unfold Device.stopRemoved
  cases dir <;> simp only [Device.button, Device.withdrawFrame_frame]

theorem Button.forget_chosen (t : Nat) (b : Button) :
    (b.forget t).chosen ≠ some t ∧ ((b.forget t).chosen = b.chosen ∨ (b.forget t).chosen = none) := by
  unfold Button.forget
  split
  · exact ⟨nofun, .inr rfl⟩
  · next h => exact ⟨h, .inl rfl⟩

/-- The receivers of a REMOVED notice beside the Stop Request Unit leave the slots, the buttons and the entries. -/
theorem Device.removed_others {n : EntryNotice} (hn : n.cause = .removed) :
    ∀ f ∈ [Device.forecastNotice n, Device.boardNotice n, Device.cueNotice n, Device.lastCallTest],
      ∀ d : Device, (f d).line = d.line ∧ (f d).sru = d.sru ∧ (f d).table = d.table := fun f hf d => by
  simp only [List.mem_cons, List.not_mem_nil, or_false] at hf
  rcases hf with rfl | rfl | rfl | rfl
  · unfold Device.forecastNotice
    rw [hn]
    exact ⟨rfl, rfl, rfl⟩
  · simp only [Device.boardNotice_frame, and_self]
  · simp only [Device.cueNotice_frame, and_self]
  · simp only [Device.lastCallTest_frame, and_self]

/-- The slots after a removal are those of a withdrawal, and no button keeps the train (R108). -/
theorem Device.deliver_removed_line (d : Device) {n : EntryNotice} (hn : n.cause = .removed) :
    (∃ x : Device, x.line = d.line ∧ x.table = d.table ∧ (d.deliver n).line = (x.withdrawFrame n.train).line) ∧
      ∀ dir, ((d.deliver n).button dir).chosen = ((d.button dir).forget n.train).chosen := by
  have hbutton : ∀ {x y : Device}, x.sru = y.sru → ∀ dir, x.button dir = y.button dir := fun h dir => by
    cases dir <;> simp only [Device.button, h]
  unfold Device.deliver
  refine Device.forAll_around (Device.stopUnitNotice n)
    [Device.forecastNotice n, Device.boardNotice n, Device.cueNotice n, Device.lastCallTest] (List.Perm.swap _ _ _)
    (P := fun x => x.line = d.line ∧ x.sru = d.sru ∧ x.table = d.table)
    (Q := fun e => (∃ x : Device, x.line = d.line ∧ x.table = d.table ∧ e.line = (x.withdrawFrame n.train).line) ∧
      ∀ dir, (e.button dir).chosen = ((d.button dir).forget n.train).chosen) (fun _ => ⟨rfl, rfl, rfl⟩)
    (fun f hf x ⟨hline, hsru, htable⟩ => ?_) (fun x ⟨hline, hsru, htable⟩ => ?_) fun f hf e ⟨⟨x, hx, hx', he⟩, hchosen⟩ => ?_
  · obtain ⟨h1, h2, h3⟩ := Device.removed_others hn f hf x
    exact ⟨h1.trans hline, h2.trans hsru, h3.trans htable⟩
  · obtain ⟨⟨y, hy, hy', he⟩, hchosen⟩ := x.stopUnit_removed hn
    exact ⟨⟨y, hy.trans hline, hy'.trans htable, he⟩, fun dir => (hchosen dir).trans (by rw [hbutton hsru dir])⟩
  · obtain ⟨h1, h2, -⟩ := Device.removed_others hn f hf e
    exact ⟨⟨x, hx, hx', h1.trans he⟩, fun dir => by rw [hbutton h2 dir]; exact hchosen dir⟩

/-- The finished set after a removal (R155). -/
theorem Device.deliver_removed_finished (d : Device) {n : EntryNotice} (hn : n.cause = .removed) :
    (d.deliver n).board.finished = d.finishedAfter n := by
  have hothers : ∀ f ∈ [Device.forecastNotice n, Device.stopUnitNotice n, Device.cueNotice n, Device.lastCallTest], ∀ x : Device,
      (f x).board.finished = x.board.finished ∧ (f x).clock = x.clock ∧ (f x).tt = x.tt := fun f hf x => by
    simp only [List.mem_cons, List.not_mem_nil, or_false] at hf
    rcases hf with rfl | rfl | rfl | rfl <;> simp
  unfold Device.deliver
  refine Device.forAll_around (Device.boardNotice n) [Device.forecastNotice n, Device.stopUnitNotice n, Device.cueNotice n, Device.lastCallTest]
    ((List.Perm.swap _ _ _).cons _ |>.trans (List.Perm.swap _ _ _))
    (P := fun x => x.board.finished = d.board.finished ∧ x.clock = d.clock ∧ x.tt = d.tt)
    (Q := fun x => x.board.finished = d.finishedAfter n) (fun _ => ⟨rfl, rfl, rfl⟩)
    (fun f hf x ⟨h1, h2, h3⟩ => ?_) (fun x ⟨h1, h2, h3⟩ => ?_) fun f hf x h => (hothers f hf x).1.trans h
  · obtain ⟨h1', h2', h3'⟩ := hothers f hf x
    exact ⟨h1'.trans h1, h2'.trans h2, h3'.trans h3⟩
  · have hafter : x.finishedAfter n = d.finishedAfter n := by
      unfold Device.finishedAfter Device.today
      rw [h1, h2, h3]
    rw [← hafter]
    unfold Device.boardNotice
    rw [if_pos hn]
    simp

/-- The finished set takes the train of an entry that ends a day's run while it has room, and no other (R155). -/
theorem Device.finishedAfter_removed (d : Device) (v : Entry) :
    (v.Ended d.clock.date ∧ d.finishedAfter v.removedNotice = d.board.finished ++ [v.train]) ∨
      (d.finishedAfter v.removedNotice = d.board.finished ∧
        (v.Ended d.clock.date → d.tt.lookup d.clock.date v.train ≠ none → d.board.finished.length < 96 → v.train ∈ d.board.finished)) := by
  unfold Device.finishedAfter
  split
  · next h =>
    obtain ⟨hdate, hstate, -⟩ := h
    exact .inl ⟨⟨hdate, hstate⟩, rfl⟩
  · next h =>
    refine .inr ⟨rfl, fun ⟨hdate, hstate⟩ hl hroom => ?_⟩
    by_contra hnot
    exact h ⟨hdate, hstate, Option.isSome_iff_ne_none.2 hl, hnot, hroom⟩

/-- A removal with its notice (R73, R108, R155). -/
theorem Device.removeTrain_sweptOf {d : Device} {v : Entry} (hv : d.entry? v.train = some v) :
    Device.SweptOf [v] d (d.removeTrain v.train) := by
  obtain ⟨e, he⟩ : ∃ e, e = d.removeTrain v.train := ⟨_, rfl⟩
  have htable := d.removeTrain_table v.train
  have hrun : e = (d.deleteEntry v.train).deliver v.removedNotice := by
    rw [he]
    unfold Device.removeTrain
    rw [hv]
  have hgone : ∀ x ∈ (d.deleteEntry v.train).table.entries, x ∈ d.table.entries ∧ x.train ≠ v.train := fun x hx => by
    obtain ⟨hmem, hne⟩ := List.mem_filter.1 hx
    exact ⟨hmem, by simpa using hne⟩
  obtain ⟨⟨y, hy, hytable, hline⟩, hchosen⟩ := Device.deliver_removed_line (d.deleteEntry v.train) (n := v.removedNotice) rfl
  have hfinished := Device.deliver_removed_finished (d.deleteEntry v.train) (n := v.removedNotice) rfl
  rw [← hrun] at hline hchosen hfinished
  rw [← hytable] at hgone
  rw [← he] at htable ⊢
  have hcues : e.cues = d.cues := by
    rw [hrun]
    exact Device.deliver_cues_of_removed rfl
  have hset := (d.deleteEntry v.train).finishedAfter_removed v
  rw [← hfinished] at hset
  refine ⟨Device.eq_with ?_ ?_ ?_ ?_ ?_ ?_ ?_ hcues ?_, by rw [he]; simp, ?_, fun x hx => ?_, fun x hx => ?_, ?_, fun w hw hroom hended hl => ?_,
    fun h => ?_, fun h w hw => ?_, fun m hm habsent => ?_, fun w hw dir => ?_, fun dir => ?_⟩
  iterate 8 rw [he]; simp
  · have hfilter : (fun x : Entry => x.train != v.train) = fun x => decide (x.train ∉ [v].map Entry.train) := funext fun x => by
      simp [bne, beq_eq_decide]
    rw [htable, hfilter]
  · rcases hset with ⟨hended, he⟩ | ⟨he, -⟩ <;> rw [he] at hx
    · rcases List.mem_append.1 hx with hx | hx
      · exact .inl hx
      · exact .inr ⟨v, List.mem_singleton_self v, (List.mem_singleton.1 hx).symm, hended⟩
    · exact .inl hx
  · rcases hset with ⟨-, he⟩ | ⟨he, -⟩ <;> rw [he]
    · exact List.mem_append_left _ hx
    · exact hx
  · rcases hset with ⟨-, he⟩ | ⟨he, -⟩ <;> rw [he]
    · exact (List.length_append (as := d.board.finished) (bs := [v.train])).symm ▸ Nat.le_succ _
    · exact le_rfl
  · obtain rfl := List.mem_singleton.1 hw
    rcases hset with ⟨-, he⟩ | ⟨he, hin⟩ <;> rw [he] at hroom ⊢
    · exact List.mem_append_right _ (List.mem_singleton_self _)
    · exact hin hended hl hroom
  · rw [hline]
    exact Device.withdrawFrame_apart (hy ▸ h) v.train
  · obtain rfl := List.mem_singleton.1 hw
    rw [hline]
    exact Device.withdrawFrame_begun (hy ▸ h) fun x hx _ => (hgone x hx).2
  · rw [hline]
    exact Device.withdrawFrame_keeps_begun (hy ▸ hm) (fun x hx _ => habsent x (hgone x hx).1) v.train
  · obtain rfl := List.mem_singleton.1 hw
    rw [hchosen dir]
    exact (Button.forget_chosen _ _).1
  · rw [hchosen dir]
    exact (Button.forget_chosen _ _).2

/-! ## Removals in turn -/

theorem Device.SweptOf.nil (d : Device) : Device.SweptOf [] d d where
  frame := rfl
  ports := rfl
  table := by simp
  finished_from _ h := .inl h
  finished_keeps _ h := h
  finished_length := le_rfl
  finished_gains _ h := absurd h List.not_mem_nil
  apart h := h
  begun _ _ h := absurd h List.not_mem_nil
  begun_keeps _ h _ := h
  forgotten _ h := absurd h List.not_mem_nil
  chosen _ := .inl rfl

theorem Device.SweptOf.frame_with {vs : List Entry} {d e : Device} (h : Device.SweptOf vs d e) (tb : RunningTable) :
    { e with table := tb } = { d with table := tb, line := e.line, sru := e.sru, board := e.board, co := e.co, ports := e.ports
                                      sched := e.sched } :=
  congrArg (fun x : Device => { x with table := tb }) h.frame

/-- Removals after removals. -/
theorem Device.SweptOf.append {vs ws : List Entry} {d e f : Device} (h1 : Device.SweptOf vs d e) (h2 : Device.SweptOf ws e f) :
    Device.SweptOf (vs ++ ws) d f := by
  have hclock : e.clock = d.clock := by rw [h1.frame]
  have htt : e.tt = d.tt := by rw [h1.frame]
  have habsent : ∀ v ∈ vs, ∀ x ∈ e.table.entries, x.train ≠ v.train := fun v hv x hx heq => by
    rw [h1.table] at hx
    exact of_decide_eq_true (List.mem_filter.1 hx).2 (heq ▸ List.mem_map_of_mem hv)
  refine ⟨?_, h2.ports.trans h1.ports, ?_, fun x hx => ?_, fun x hx => h2.finished_keeps x (h1.finished_keeps x hx),
    h1.finished_length.trans h2.finished_length, fun v hv hroom hended hl => ?_, fun h => h2.apart (h1.apart h), fun h v hv => ?_,
    fun m hm hm' => h2.begun_keeps m (h1.begun_keeps m hm hm') fun x hx => ?_, fun v hv dir => ?_, fun dir => ?_⟩
  · refine h2.frame.trans ?_
    conv_lhs => rw [h1.frame]
  · rw [h2.table, h1.table]
    simp only [List.filter_filter, List.map_append, List.mem_append, not_or, Bool.decide_and]
    congr 2
    funext x
    exact Bool.and_comm _ _
  · rcases h2.finished_from x hx with hx | ⟨v, hv, hvx, hended⟩
    · rcases h1.finished_from x hx with hx | ⟨v, hv, hvx, hended⟩
      · exact .inl hx
      · exact .inr ⟨v, List.mem_append_left _ hv, hvx, hended⟩
    · exact .inr ⟨v, List.mem_append_right _ hv, hvx, hclock ▸ hended⟩
  · rcases List.mem_append.1 hv with hv | hv
    · exact h2.finished_keeps _ (h1.finished_gains v hv (h2.finished_length.trans_lt hroom) hended hl)
    · exact h2.finished_gains v hv hroom (hclock ▸ hended) (by rw [htt, hclock]; exact hl)
  · rcases List.mem_append.1 hv with hv | hv
    · exact h2.begun_keeps _ (h1.begun h v hv) (habsent v hv)
    · exact h2.begun (h1.apart h) v hv
  · rw [h1.table] at hx
    exact hm' x (List.mem_filter.1 hx).1
  · rcases List.mem_append.1 hv with hv | hv
    · rcases h2.chosen dir with hc | hc <;> rw [hc]
      · exact h1.forgotten v hv dir
      · exact nofun
    · exact h2.forgotten v hv dir
  · rcases h2.chosen dir with hc | hc
    · exact (h1.chosen dir).imp hc.trans hc.trans
    · exact .inr hc

/-- Entries of the table removed one after another. -/
theorem Device.sweptOf_foldl {d : Device} (hone : d.table.OneEach) {vs : List Entry} (hin : ∀ v ∈ vs, v ∈ d.table.entries)
    (hnodup : (vs.map Entry.train).Nodup) : Device.SweptOf vs d (vs.foldl (fun d v => d.removeTrain v.train) d) := by
  induction vs generalizing d with
  | nil => exact .nil d
  | cons v vs ih =>
    obtain ⟨hv, hvs⟩ := List.nodup_cons.1 hnodup
    have hfirst := Device.removeTrain_sweptOf (hone.entry?_eq_some.2 ⟨hin v List.mem_cons_self, rfl⟩)
    refine hfirst.append (ih ?_ (fun w hw => ?_) hvs)
    · rw [hfirst.table]
      exact hone.sublist (List.filter_sublist.map _)
    · rw [hfirst.table]
      refine List.mem_filter.2 ⟨hin w (List.mem_cons_of_mem v hw), decide_eq_true fun hw' => hv ?_⟩
      rw [← List.mem_singleton.1 hw']
      exact List.mem_map_of_mem hw

end Sys2Proof.Machine

/-! # A due sweep -/

namespace Sys2Proof.Machine

/-! ## The row of a due sweep (R71 to R73) -/

theorem exec_sweepTick {s : State} (hrun : s.dev.phase = .running) :
    exec .sweepTick s = .next { s with dev := s.dev.sweepTick } := by
  have hrunning : s.dev.running = true := by unfold Device.running; rw [hrun]; rfl
  exact congrArg (fun d => Host.Outcome.next { s with dev := d }) (if_pos hrunning)

theorem Device.sweepTick_due {d : Device} {n : Nat} (h : d.clock.dueSweep = n + 1) :
    d.sweepTick = ({ d with clock := { d.clock with dueSweep := n } } : Device).sweep := by
  unfold Device.sweepTick
  rw [h]
  rfl

/-- The ageing of an entry that stays (R72). -/
theorem Entry.aged_eq (e : Entry) :
    e.aged = if e.touched = true then { e with idleSweeps := 0, stale := false, touched := false }
      else { e with idleSweeps := min 3 (e.idleSweeps + 1), stale := if 2 ≤ e.idleSweeps then true else e.stale } := by
  unfold Entry.aged
  cases ht : e.touched
  · have hstale : (e.stale || decide (min 3 (e.idleSweeps + 1) = 3)) = if 2 ≤ e.idleSweeps then true else e.stale := by
      split
      · rw [decide_eq_true (by omega), Bool.or_true]
      · rw [decide_eq_false (by omega), Bool.or_false]
    rw [if_neg (by simp), if_neg (by simp), hstale]
  · rfl

/-- Two parts of a table in its order with the same entries are equal (R51). -/
theorem RunningTable.Lawful.sublist_ext {tb : RunningTable} (h : tb.Lawful) {xs ys : List Entry} (hx : xs.Sublist tb.entries)
    (hy : ys.Sublist tb.entries) (hmem : ∀ e, e ∈ xs ↔ e ∈ ys) : xs = ys := by
  have hsorted : ∀ {zs : List Entry}, zs.Sublist tb.entries → zs.Pairwise fun a b => a.train < b.train := fun hz =>
    List.pairwise_map.1 (h.ascending.sublist (hz.map _))
  have hnodup : ∀ {zs : List Entry}, zs.Sublist tb.entries → zs.Nodup := fun hz =>
    (hsorted hz).imp fun hlt heq => absurd hlt (by rw [heq]; exact lt_irrefl _)
  refine List.Perm.eq_of_pairwise (fun a b _ _ hab hba => absurd (hab.trans hba) (lt_irrefl _)) (hsorted hx) (hsorted hy) ?_
  exact (List.perm_ext_iff_of_nodup (hnodup hx) (hnodup hy)).2 hmem

/-- A due sweep removes the entries of R71, in some order, and ages the others (R71 to R73, log 6). -/
theorem Device.sweep_spec {d : Device} (hone : d.table.OneEach) :
    ∃ (vs : List Entry) (k : Nat) (e : Device), (∀ x, x ∈ vs ↔ x ∈ d.table.entries ∧ x.RemovedAt (d.clockOn x)) ∧
      Device.SweptOf vs { d with sched := k } e ∧
      d.sweep = { e with table := { entries := e.table.entries.map Entry.aged, full := if vs = [] then d.table.full else false } } := by
  obtain ⟨vs, hvs⟩ : ∃ vs, vs = permute d.sched (d.table.entries.filter fun e => e.swept (d.entryTime e)) := ⟨_, rfl⟩
  have hmem : ∀ x, x ∈ vs ↔ x ∈ d.table.entries ∧ x.RemovedAt (d.clockOn x) := fun x => by
    rw [hvs, mem_permute, List.mem_filter, Entry.swept_iff]
    rfl
  have htrains : (vs.map Entry.train).Nodup := by
    rw [hvs]
    exact (((permute_perm _ _).map _).nodup_iff).2 (hone.sublist (List.filter_sublist.map _))
  have hswept := Device.sweptOf_foldl (d := { d with sched := d.sched / choices d.sweepVictims.length }) hone
    (fun v hv => ((hmem v).1 hv).1) htrains
  have hrun : d.forAll d.sweepVictims Device.removeTrain =
      vs.foldl (fun d v => d.removeTrain v.train) { d with sched := d.sched / choices d.sweepVictims.length } := by
    unfold Device.forAll Device.shuffle Device.sweepVictims
    dsimp only
    rw [permute_map, ← hvs, List.foldl_map]
  have hempty : (!d.sweepVictims.isEmpty) = decide (vs ≠ []) := by
    have hlen : d.sweepVictims.length = vs.length := by
      rw [hvs, (permute_perm _ _).length_eq]
      exact List.length_map _
    have hnil : d.sweepVictims = [] ↔ vs = [] := by rw [← List.length_eq_zero_iff, hlen, List.length_eq_zero_iff]
    rw [Bool.eq_iff_iff]
    simp [hnil]
  refine ⟨vs, _, _, hmem, hswept, ?_⟩
  unfold Device.sweep Device.when
  rw [hrun, hempty]
  by_cases hv : vs = []
  · subst hv
    rfl
  · rw [if_pos (by simpa using hv), if_neg hv]
    rfl

/-- Settles O42: the removals are followed one by one, then the entries left are aged. -/
theorem sweepRemovesAndAges : Obligations.SweepRemovesAndAges := by
  unfold Obligations.SweepRemovesAndAges
  refine fun s hrun => ⟨fun h0 => ?_, fun n gone left hdue htable hgone hsub hleft => ?_⟩
  · rw [exec_sweepTick hrun]
    unfold Device.sweepTick
    rw [if_pos h0]
  obtain ⟨d, hd⟩ : ∃ d : Device, d = { s.dev with clock := { s.dev.clock with dueSweep := n } } := ⟨_, rfl⟩
  obtain ⟨vs, k, e, hvs, hswept, hsweep⟩ := Device.sweep_spec (d := d) (by rw [hd]; exact htable.oneEach)
  have hsame : ∀ v, v ∈ vs ↔ v ∈ gone := fun v => by rw [hvs, hgone, hd]; rfl
  have hnil : vs = [] ↔ gone = [] := by
    simp only [List.eq_nil_iff_forall_not_mem, hsame]
  have hentries : e.table.entries = left := by
    rw [hswept.table, hd]
    refine htable.sublist_ext List.filter_sublist hsub fun x => ?_
    rw [hleft, List.mem_filter, decide_eq_true_iff]
    refine and_congr_right fun hx => not_congr ⟨fun hin => ?_, fun hr => List.mem_map_of_mem ((hsame x).2 ((hgone x).2 ⟨hx, hr⟩))⟩
    obtain ⟨v, hv, hvx⟩ := List.mem_map.1 hin
    obtain ⟨hvin, hvr⟩ := (hgone v).1 ((hsame v).1 hv)
    have hone : s.dev.table.OneEach := htable.oneEach
    rwa [← Option.some_inj.1 ((hone.entry?_eq_some.2 ⟨hvin, hvx⟩).symm.trans (hone.entry?_eq_some.2 ⟨hx, rfl⟩))]
  rw [exec_sweepTick hrun, Device.sweepTick_due hdue, ← hd, hsweep]
  have hclock : d.clock = { s.dev.clock with dueSweep := n } := by rw [hd]
  refine ⟨_, rfl, ⟨rfl, hswept.ports.trans (by rw [hd])⟩, ?_, fun x hx => ?_, fun x hx => ?_, fun v hv hroom hdate hstate hl => ?_,
    fun hl v hv => ?_, fun v hv dir => ?_⟩
  · have haged : left.map Entry.aged = left.map fun e =>
        if e.touched = true then { e with idleSweeps := 0, stale := false, touched := false }
        else { e with idleSweeps := min 3 (e.idleSweeps + 1), stale := if 2 ≤ e.idleSweeps then true else e.stale } :=
      List.map_congr_left fun e _ => e.aged_eq
    have hfull : (if vs = [] then d.table.full else false) = if gone = [] then s.dev.table.full else false :=
      if_congr hnil (by rw [hd]) rfl
    rw [hentries, haged, hfull]
    exact (hswept.frame_with _).trans (by rw [hd])
  · rcases hswept.finished_from x hx with hx | ⟨v, hv, hvx, hdate, hstate⟩
    · exact .inl (by rw [hd] at hx; exact hx)
    · exact .inr ⟨v, (hsame v).1 hv, hvx, by rw [hd] at hdate; exact hdate, hstate⟩
  · exact hswept.finished_keeps x (by rw [hd]; exact hx)
  · exact hswept.finished_gains v ((hsame v).2 hv) hroom ⟨by rw [hd]; exact hdate, hstate⟩ (by rw [hd]; exact hl)
  · exact hswept.begun (by rw [hd]; exact hl.apart) v ((hsame v).2 hv)
  · exact hswept.forgotten v ((hsame v).2 hv) dir

end Sys2Proof.Machine

/-! # The entry that a frame works on -/

namespace Sys2Proof.Machine

/-! ## Forecast fields beside the core (R74, R86) -/

/-- A recompute sets DELAY_CUED exactly where it hands on a cue (R86). -/
theorem Entry.recompute_delayCued (dwell early : Nat) (n : Int) (tick : Bool) (e : Entry) :
    (e.recompute dwell early n tick).2 = true ↔ e.delayCued = false ∧ (e.recompute dwell early n tick).1.delayCued = true := by
  have hstages : ∀ (e : Entry) c f, (e.recomputeStages dwell n c f).delayCued = e.delayCued := fun e c f => by
    unfold Entry.recomputeStages
    dsimp only
    split <;> rfl
  have hoverdue : ∀ (e : Entry) c, (e.overdueTest dwell n c).delayCued = e.delayCued := fun e c => by
    unfold Entry.overdueTest
    split
    · rfl
    · split <;> rfl
  have hcue : ∀ (e : Entry) c, e.delayCueDue c = true ↔ e.delayCued = false ∧ (e.delayCueTest c).delayCued = true := fun e c => by
    unfold Entry.delayCueTest
    by_cases hdue : e.delayCueDue c = true
    · have hbefore : e.delayCued = false := by
        unfold Entry.delayCueDue at hdue
        simp only [Bool.and_eq_true, Bool.not_eq_true'] at hdue
        exact hdue.1.2
      simp [hdue, hbefore]
    · rw [if_neg hdue]
      refine ⟨fun h => absurd h hdue, fun ⟨hbefore, hafter⟩ => ?_⟩
      split at hafter
      · cases hafter
      · rw [hbefore] at hafter; cases hafter
  unfold Entry.recompute
  split
  · exact ⟨nofun, fun h => absurd (h.1.symm.trans h.2) nofun⟩
  · split
    · exact ⟨nofun, fun h => absurd (h.1.symm.trans h.2) nofun⟩
    · dsimp only
      rw [hcue]
      split
      · rw [hoverdue, hstages]
      · rw [hstages]

/-- The DELAYED cue of a recompute follows DELAY_CUED (R86). -/
theorem Device.delayedCues_eq (d : Device) (tick : Bool) (e : Entry) :
    d.delayedCues tick e = if e.delayCued = false ∧ (d.recomputedEntry tick e).delayCued = true then [d.cueAbout .delayed e 1] else [] := by
  have hcued := Entry.recompute_delayCued d.halt.dwell d.halt.early (d.entryTime e) tick e
  unfold Device.delayedCues Device.recomputedEntry Device.recomputeResult
  cases hs : e.inScope d.clock.state
  · rw [Bool.false_and, if_neg (by simp), if_neg fun h => ?_]
    rw [if_neg (by simp)] at h
    exact absurd (h.1.symm.trans h.2) nofun
  · rw [Bool.true_and, if_pos rfl]
    exact if_congr hcued rfl rfl

/-- A new entry of a call of the timetable is at most a dwell late (R80, R86). -/
theorem Entry.fresh_lateness {dwell : Nat} (hd : dwell ≤ 120) {h : HeldCall} (hv : h.call.Valid) (t : Nat) (x : Date) (n : Int) :
    ((Entry.fresh t x (some h)).recomputeStages dwell n h.call 0).lateness h.call ≤ 120 := by
  obtain ⟨harr, -, hdep⟩ := hv.times
  have hclamp : clampTime ((h.call.schedArr : Int) + 0) = h.call.schedArr := by
    unfold clampTime
    omega
  have hlate : ((Entry.fresh t x (some h)).recomputeStages dwell n h.call 0).lateness h.call =
      ((Entry.fresh t x (some h)).forecastDeparture dwell n h.call (clampTime ((h.call.schedArr : Int) + 0)) : Int) - h.call.schedDep := rfl
  rw [hlate, hclamp]
  unfold Entry.forecastDeparture clampTime
  dsimp only [Entry.fresh]
  split <;> omega

/-- A new entry of a call of the timetable has DELAY_CUED clear after its recompute (R86). -/
theorem Device.recomputedEntry_fresh {d : Device} (hd : d.halt.dwell ≤ 120) (t : Nat) (x : Date) {held : Option HeldCall}
    (hv : ∀ h, held = some h → h.call.Valid) : (d.recomputedEntry false (.fresh t x held)).delayCued = false := by
  refine Bool.eq_false_iff.2 fun hcued => ?_
  unfold Device.recomputedEntry Device.recomputeResult at hcued
  split at hcued
  · have hdue := (Entry.recompute_delayCued _ _ _ _ _).2 ⟨rfl, hcued⟩
    cases held with
    | none => exact absurd hdue nofun
    | some h =>
      have hdue : ((Entry.fresh t x (some h)).recomputeStages d.halt.dwell (d.entryTime (.fresh t x (some h))) h.call 0).delayCueDue h.call =
        true := hdue
      have hlate := Entry.fresh_lateness hd (hv h rfl) t x (d.entryTime (.fresh t x (some h)))
      unfold Entry.delayCueDue at hdue
      rw [Bool.and_eq_true, decide_eq_true_iff] at hdue
      omega
  · exact absurd hcued nofun

/-! ## Entering for a frame (R55, R56) -/

/-- A part that differs from another in the entries, the line, the buttons, the board, the cues, the change-over and the ports. -/
theorem Device.eq_of_frame {d e : Device} (hphase : e.phase = d.phase) (hclock : e.clock = d.clock) (htt : e.tt = d.tt)
    (hfull : e.table.full = d.table.full) (hfares : e.fares = d.fares) (hsale : e.sale = d.sale) (hjournal : e.journal = d.journal)
    (hnotices : e.notices = d.notices) (hhalt : e.halt = d.halt) :
    e = { d with line := e.line, table := { d.table with entries := e.table.entries }, sru := e.sru, board := e.board
                 cues := e.cues, co := e.co, ports := e.ports, sched := e.sched } := by
  rw [← hphase, ← hclock, ← htt, ← hfares, ← hsale, ← hjournal, ← hnotices, ← hhalt]
  dsimp only
  rw [← hfull]

/-- What a frame of train `n` leaves of the part `d` before the act on the entry `e` it meets: the entry is there, no other has
changed but one that made way, and a new entry of a lawful timetable has raised no cue (R55, R56). -/
structure Device.Reaches (d : Device) (n : Nat) (e : Entry) (u : Device) : Prop where
  entry : ∃ x, u.entry? n = some x ∧ x.core = e.core ∧
    ((d.entry? n = none → d.tt.Lawful ∧ d.halt.dwell ≤ 120) → x.delayCued = e.delayCued ∧ u.cues = d.cues)
  others : d.OthersStay u n
  frame : u = { d with line := u.line, table := { d.table with entries := u.table.entries }, sru := u.sru, board := u.board
                       cues := u.cues, co := u.co, ports := u.ports, sched := u.sched }
  quiet : u.ports.quiet = d.ports.quiet
  stays : ∀ x, d.entry? n = some x → u = d

/-- A train that has an entry is met as it is. -/
theorem Device.Reaches.of_entry {d : Device} {n : Nat} {e : Entry} (he : d.entry? n = some e) : d.Reaches n e d where
  entry := ⟨e, he, rfl, fun _ => ⟨rfl, rfl⟩⟩
  others := ⟨fun _ _ _ => rfl, fun _ hv => absurd (hv.2.1.symm.trans he) nofun⟩
  frame := rfl
  quiet := rfl
  stays _ _ := rfl

/-- One entry alone makes way (R56). -/
theorem Device.MakesWay.unique {d : Device} {n : Nat} {v w : Entry} (hv : d.MakesWay n v) (hw : d.MakesWay n w) : v = w :=
  Option.some_inj.1 (hv.victim.symm.trans hw.victim)

/-- The entry that makes way is not of the train that is entered. -/
theorem Device.MakesWay.train_ne {d : Device} {n : Nat} {v : Entry} (hv : d.MakesWay n v) : v.train ≠ n := fun heq => by
  obtain ⟨-, hnone, -, hmem, -⟩ := hv
  exact Device.entry?_eq_none.1 hnone v hmem heq

/-- A new entry put into the table, with room or in place of the one that makes way (R55, R56). -/
theorem Device.makeEntry_reaches {d : Device} {e : Entry} (hn : d.entry? e.train = none)
    (hroom : d.table.entries.length < 24 ∨ ∃ v, d.MakesWay e.train v)
    (hfresh : d.tt.Lawful ∧ d.halt.dwell ≤ 120 → (d.recomputedEntry false e).delayCued = false ∧ e.delayCued = false) :
    ∃ u, d.makeEntry e = (.entered, u) ∧ d.Reaches e.train e u := by
  have hmade : ∃ w, d.makeEntry e = (.entered, (w.insertEntry e).deliver e.enteredNotice) ∧ w.entry? e.train = none ∧
      d.OthersStay w e.train ∧ w.table.full = d.table.full ∧ w.cues = d.cues ∧ w.phase = d.phase ∧ w.clock = d.clock ∧ w.tt = d.tt ∧
      w.fares = d.fares ∧ w.sale = d.sale ∧ w.journal = d.journal ∧ w.notices = d.notices ∧ w.halt = d.halt ∧
      w.ports.quiet = d.ports.quiet := by
    unfold Device.makeEntry
    by_cases hlt : d.table.entries.length < 24
    · refine ⟨d, if_pos hlt, hn, ⟨fun _ _ _ => rfl, fun v ⟨_, _, hfull, _⟩ => ?_⟩, rfl, rfl, rfl, rfl, rfl, rfl, rfl, rfl, rfl, rfl, rfl⟩
      exact absurd hfull hlt.ne
    · obtain ⟨v, hv⟩ := hroom.resolve_left hlt
      rw [if_neg hlt, hv.victim]
      refine ⟨_, rfl, Device.removeTrain_entry?_none hn, ⟨fun m _ hother => ?_, fun v' hv' => ?_⟩, ?_, ?_, ?_⟩
      · exact Device.removeTrain_other d (hother v hv)
      · rw [Device.entry?_eq_none, Device.removeTrain_table, hv'.unique hv]
        exact fun x hx => by simpa using (List.mem_filter.1 hx).2
      · rw [Device.removeTrain_table]
      · unfold Device.removeTrain
        split
        · rfl
        · exact Device.deliver_cues_of_removed rfl
      · simp only [Device.removeTrain_frame, and_self]
  obtain ⟨w, hmake, hnw, ⟨hothers, hway⟩, hfull, hcues, hphase, hclock, htt, hfares, hsale, hjournal, hnotices, hhalt, hports⟩ := hmade
  have htakes := w.insertEntry_takes e
  have hin := Device.insertEntry_self hnw
  have hsame : w.recomputedEntry false e = d.recomputedEntry false e := by
    unfold Device.recomputedEntry Device.recomputeResult Device.entryTime Device.timeFrom Device.today Device.now
    rw [hclock, hhalt]
  refine ⟨_, hmake, ⟨_, by rw [htakes.writes.mine, hin]; rfl, w.recomputedEntry_core false e, fun hlawful => ?_⟩, ⟨fun m hm hv => ?_, fun v hv => ?_⟩,
    Device.eq_of_frame ?_ ?_ ?_ ?_ ?_ ?_ ?_ ?_ ?_, ?_, fun x hx => absurd (hn.symm.trans hx) nofun⟩
  · obtain ⟨hafter, hbefore⟩ := hfresh (hlawful hn)
    rw [← hsame] at hafter
    refine ⟨hafter.trans hbefore.symm, ?_⟩
    rw [htakes.cues, hin, Option.elim_some, Device.delayedCues_eq, if_neg (by simp [hafter])]
    exact hcues
  · rw [htakes.writes.others m hm, Device.insertEntry_other w hm, hothers m hm hv]
  · rw [htakes.writes.others _ hv.train_ne, Device.insertEntry_other w hv.train_ne, hway v hv]
  · simpa only [Device.deliver_frame, Device.insertEntry_frame] using hphase
  · simpa only [Device.deliver_frame, Device.insertEntry_frame] using hclock
  · simpa only [Device.deliver_frame, Device.insertEntry_frame] using htt
  · exact htakes.writes.full.trans hfull
  · simpa only [Device.deliver_frame, Device.insertEntry_frame] using hfares
  · simpa only [Device.deliver_frame, Device.insertEntry_frame] using hsale
  · simpa only [Device.deliver_frame, Device.insertEntry_frame] using hjournal
  · simpa only [Device.deliver_frame, Device.insertEntry_frame] using hnotices
  · simpa only [Device.deliver_frame, Device.insertEntry_frame] using hhalt
  · simpa only [Device.deliver_frame, Device.insertEntry_frame] using hports

/-- A train that a frame meets without an entry is entered (R55, R56). -/
theorem Device.enterTrain_reaches {d : Device} {n : Nat} {e : Entry} (hm : d.Meets n e) (hn : d.entry? n = none) :
    ∃ u, d.enterTrain n true = (.entered, u) ∧ d.Reaches n e u := by
  obtain ⟨-, hroom, hfresh⟩ := Or.resolve_left hm (by simp [hn])
  unfold Device.enterTrain Device.today
  rcases hfresh with ⟨c, hc, rfl⟩ | ⟨hc, hu, rfl⟩
  · rw [hc]
    refine Device.makeEntry_reaches (e := .fresh n d.clock.date (some c)) hn hroom fun hlawful => ⟨?_, rfl⟩
    refine Device.recomputedEntry_fresh hlawful.2 n _ fun h hh => ?_
    exact Option.some_inj.1 hh ▸ hlawful.1.callsValid.lookup_valid hc
  · rw [hc, hu]
    exact Device.makeEntry_reaches (e := .fresh n d.clock.date none) hn hroom fun hlawful =>
      ⟨Device.recomputedEntry_fresh hlawful.2 n _ nofun, rfl⟩

/-- The part that a SERVICE frame works on (R65). -/
theorem Device.ensureEntry_reaches {d : Device} {n : Nat} {e : Entry} (hm : d.Meets n e) : d.Reaches n e (d.ensureEntry n) := by
  unfold Device.ensureEntry
  cases hn : d.entry? n with
  | some x =>
    rcases hm with hs | ⟨hnone, -⟩
    · exact .of_entry hs
    · exact absurd (hnone.symm.trans hn) nofun
  | none =>
    obtain ⟨u, hu, hreach⟩ := Device.enterTrain_reaches hm hn
    rw [hu]
    exact hreach

/-! ## An act on the entry met, with its notice (R59 to R68) -/

/-- The entry that a notice leaves is that of an entry with the same core, but for the forecast fields. -/
theorem Device.noticed_core (d : Device) (n : EntryNotice) {y z : Entry} (h : y.core = z.core) :
    (d.noticed n y).core = (z.withStop (n.stopAfter z)).core := by
  unfold Device.noticed
  rw [Entry.withStop_core, d.forecasted_core, h, EntryNotice.stopAfter_of_core h, Entry.withStop_core]

/-- A touch of the entry that a frame reaches. -/
theorem Device.Reaches.touch {d u : Device} {n : Nat} {e : Entry} (h : d.Reaches n e u) :
    d.OthersStay (u.touch n) n ∧
      u.touch n = { d with line := (u.touch n).line, table := { d.table with entries := (u.touch n).table.entries }, sru := (u.touch n).sru
                           board := (u.touch n).board, cues := (u.touch n).cues, co := (u.touch n).co, ports := (u.touch n).ports
                           sched := (u.touch n).sched } ∧
      (u.touch n).ports.quiet = d.ports.quiet := by
  have hothers := (u.touch_writes n).others
  refine ⟨⟨fun m hm hv => (hothers m hm).trans (h.others.1 m hm hv), fun v hv => ?_⟩, ?_, h.quiet⟩
  · rw [hothers _ hv.train_ne, h.others.2 v hv]
  · exact congrArg (fun x : Device => x.touch n) h.frame

/-- An act that makes the touched entry `y`, with its notice handed on: the entry and the cues that it leaves, and the rest. -/
theorem Device.Reaches.acted {d u : Device} {n : Nat} {e x y : Entry} (h : d.Reaches n e u) (hx : u.entry? n = some x)
    (hy : y.train = n) {nt : EntryNotice} (hnt : nt.train = n) {t : Device} (ht : t = (u.acted n y).deliver nt) :
    t.entry? n = some (d.noticed nt y) ∧ d.OthersStay t n ∧
      t = { d with line := t.line, table := { d.table with entries := t.table.entries }, sru := t.sru, board := t.board
                   cues := t.cues, co := t.co, ports := t.ports, sched := t.sched } ∧
      t.ports.quiet = d.ports.quiet ∧
      ∃ cs : List Cue, cs.Perm (d.raisedCues nt y) ∧ t.cues = cs.foldl offerTo u.cues ∧
        (u.cues = [] → cs ≠ [] → t.hasFlag .cuePending = true) := by
  subst hnt
  obtain ⟨cs, hperm, htakes⟩ := (u.acted nt.train y).deliver_takes nt
  rw [← ht] at htakes
  have hwrites : u.Writes nt.train (fun _ => y) (u.acted nt.train y) :=
    (u.touch_writes nt.train).trans (.updateEntry _ (g := fun _ => y) fun _ _ => hy)
  have hmine : (u.acted nt.train y).entry? nt.train = some y := by rw [hwrites.mine, hx]; rfl
  have hframe := h.frame
  have hclock : u.clock = d.clock := by rw [hframe]
  have hhalt : u.halt = d.halt := by rw [hframe]
  obtain ⟨hforecasted, hforecastCues, hcutoffCues, hnoticeCues⟩ :=
    Device.forecasted_congr (d := d) (e := u.acted nt.train y) hclock hhalt nt
  have hnoticed : (u.acted nt.train y).noticed nt = d.noticed nt := by unfold Device.noticed; rw [hforecasted]
  have hraised : (u.acted nt.train y).raisedCues nt = d.raisedCues nt := by
    unfold Device.raisedCues
    rw [hforecastCues, hcutoffCues, hnoticeCues]
  have hothers : ∀ m, m ≠ nt.train → t.entry? m = u.entry? m := fun m hm => (htakes.writes.others m hm).trans (hwrites.others m hm)
  obtain ⟨hphase, hclock', htt, hfares, hsale, hjournal, hnotices, hhalt', hports⟩ : t.phase = u.phase ∧ t.clock = u.clock ∧ t.tt = u.tt ∧
      t.fares = u.fares ∧ t.sale = u.sale ∧ t.journal = u.journal ∧ t.notices = u.notices ∧ t.halt = u.halt ∧
      t.ports.quiet = u.ports.quiet := by
    rw [ht]
    simp only [Device.deliver_frame, Device.acted, Device.updateEntry_frame, Device.touch_frame, and_self]
  have hcues := htakes.cues
  have htold := htakes.told
  rw [hmine] at hcues htold
  refine ⟨by rw [htakes.writes.mine, hmine, ← hnoticed]; rfl, ⟨fun m hm hv => (hothers m hm).trans (h.others.1 m hm hv), fun v hv => ?_⟩,
    Device.eq_of_frame (hphase.trans (by rw [hframe])) (hclock'.trans hclock) (htt.trans (by rw [hframe]))
      ((htakes.writes.full.trans hwrites.full).trans (by rw [hframe])) (hfares.trans (by rw [hframe])) (hsale.trans (by rw [hframe]))
      (hjournal.trans (by rw [hframe])) (hnotices.trans (by rw [hframe])) (hhalt'.trans hhalt),
    hports.trans h.quiet, cs y, hraised ▸ hperm y, hcues, htold⟩
  rw [hothers _ hv.train_ne, h.others.2 v hv]

end Sys2Proof.Machine

/-! # A RUN frame that is a new report -/

namespace Sys2Proof.Machine

/-! ## The report on an entry (R60 to R63) -/

/-- What two entries of one core agree in. -/
theorem Entry.field_of_core {β : Type} {x y : Entry} (h : x.core = y.core) (g : Entry → β) (hg : ∀ e : Entry, g e.core = g e) : g x = g y := by
  rw [← hg x, ← hg y, h]

/-- A report reads of the entry what its core holds. -/
theorem Entry.report_core (e : Entry) (j : RunJudgement) (t : Nat) (ev : RunEvent) : (e.report j t ev).core = e.core.report j t ev := by
  have hmove : ∀ (x : Entry) s, (x.moveTo s).core = x.core.moveTo s := fun x s => by
    unfold Entry.moveTo
    rw [apply_ite Entry.core]
    rfl
  unfold Entry.report
  cases j with
  | touchOnly => rfl
  | away => exact hmove _ _
  | route k pt => exact hmove _ _
  | halt => exact hmove _ _

/-- The fields that a new report writes (R61, R62). -/
theorem Entry.report_fields {e : Entry} {j : RunJudgement} (hj : j ≠ .touchOnly) (t : Nat) (ev : RunEvent) :
    e.report j t ev = { e with
      lastEvent := some ev, lastTime := some t, state := (e.report j t ev).state, beforeCancel := (e.report j t ev).beforeCancel
      lastIndex := (e.report j t ev).lastIndex, delay := (e.report j t ev).delay, haltArrival := (e.report j t ev).haltArrival } := by
  unfold Entry.report Entry.moveTo
  cases j with
  | touchOnly => exact absurd rfl hj
  | away | route | halt => dsimp only; split <;> rfl

/-- A state move (R63). -/
theorem Entry.moveTo_movedTo {e x : Entry} (hs : x.state = e.state) (hb : x.beforeCancel = e.beforeCancel) (s : RunState) :
    e.MovedTo s (x.moveTo s) := by
  unfold Entry.MovedTo Entry.moveTo
  rw [hs]
  split
  · next h => exact ⟨h, rfl⟩
  · exact ⟨rfl, hb⟩

theorem Entry.moveTo_keeps (x : Entry) (s : RunState) :
    (x.moveTo s).lastIndex = x.lastIndex ∧ (x.moveTo s).delay = x.delay ∧ (x.moveTo s).haltArrival = x.haltArrival := by
  unfold Entry.moveTo
  split <;> exact ⟨rfl, rfl, rfl⟩

/-- A new report at the own point is judged as the halt (R60, R62, log 32). -/
theorem Entry.judge_own {e : Entry} {own point : Nat} {ev : RunEvent} (hp : point = own) (hj : e.judge own point ev ≠ .touchOnly) :
    e.judge own point ev = .halt := by
  have hrun := not_or.2 (Entry.judge_runs hj)
  unfold Entry.judge at hj ⊢
  rw [if_neg hrun, if_pos hp] at hj ⊢
  exact if_pos (Classical.byContradiction fun h => hj (if_neg h))

/-- A new report of an UNLISTED train elsewhere (R62). -/
theorem Entry.judge_unlisted {e : Entry} {own point : Nat} {ev : RunEvent} (hp : point ≠ own) (hh : e.held = none)
    (hj : e.judge own point ev ≠ .touchOnly) : e.judge own point ev = .away := by
  have hrun := not_or.2 (Entry.judge_runs hj)
  unfold Entry.judge at hj ⊢
  rw [if_neg hrun, if_neg hp, hh] at hj ⊢
  exact if_pos (Classical.byContradiction fun h => hj (if_neg h))

/-- A new report at a route point (R60). -/
theorem Entry.judge_listed {e : Entry} {own point k : Nat} {ev : RunEvent} {h : HeldCall} {r : RoutePoint} (hp : point ≠ own)
    (hh : e.held = some h) (hk : h.call.route[k]? = some r) (hr : r.point = point)
    (hfirst : ∀ j x, j < k → h.call.route[j]? = some x → x.point ≠ point) (hj : e.judge own point ev ≠ .touchOnly) :
    e.judge own point ev = .route (k + 1) r := by
  have hrun := not_or.2 (Entry.judge_runs hj)
  unfold Entry.judge at hj ⊢
  rw [if_neg hrun, if_neg hp, hh] at hj ⊢
  dsimp only at hj ⊢
  rw [routeIndex_eq_some hk hr hfirst 1, Nat.add_comm 1 k] at hj ⊢
  exact if_pos (Classical.byContradiction fun h => hj (if_neg h))

/-- The state of a report at a route point (R61). -/
theorem Entry.routeState_eq {e : Entry} {h : HeldCall} (hh : e.held = some h) (k : Nat) :
    e.routeState k = if ∃ a, h.call.approach = some a ∧ a ≤ k then .approaching else .running := by
  unfold Entry.routeState
  rw [hh]
  refine if_congr ?_ rfl rfl
  cases ha : h.call.approach <;> simp [ha]

/-! ## The request and the cues at a report (R86, R103, R105, R171, R172) -/

/-- The notice of a report reads of the entries what their cores hold. -/
theorem reportNotice_of_core {a b a' b' : Entry} (ha : a.core = a'.core) (hb : b.core = b'.core) : reportNotice a b = reportNotice a' b' := by
  unfold reportNotice
  rw [Entry.field_of_core ha Entry.train fun _ => rfl, Entry.field_of_core ha Entry.date fun _ => rfl,
    Entry.field_of_core ha Entry.state fun _ => rfl, Entry.field_of_core ha Entry.lastIndex fun _ => rfl,
    Entry.field_of_core hb Entry.state fun _ => rfl, Entry.field_of_core hb Entry.lastIndex fun _ => rfl]

theorem StopState.inProgress_iff {s : StopState} : s.inProgress = true ↔ s = .pending ∨ s = .sent := by
  cases s <;> simp [StopState.inProgress]

/-- A report reaches the cutoff (R105). -/
theorem reachesCutoff_iff {a b : Entry} {c : CallRec} :
    (reportNotice a b).reachesCutoff c = true ↔ belowCutoff a.lastIndex c = true ∧ belowCutoff b.lastIndex c = false := by
  unfold EntryNotice.reachesCutoff reportNotice
  rw [Bool.and_eq_true, Bool.not_eq_true']

/-- The stop state that a report leaves (R103, R105). -/
theorem stopAfter_eq_stopAfterReport {e y e' : Entry} {h : HeldCall} (hh : y.held = some h) (hs : y.stop = e.stop)
    (hw : y.waiting = e.waiting) (hstate : e'.state = y.state) (hindex : e'.lastIndex = y.lastIndex) :
    (reportNotice e y).stopAfter y = stopAfterReport e e' h.call := by
  rw [EntryNotice.stopAfter_report rfl hh]
  unfold stopAfterReport
  refine if_congr ?_ rfl (if_congr ?_ rfl hs)
  · rw [Bool.and_eq_true, reachesCutoff_iff, StopState.inProgress_iff, hs, hindex, and_assoc]
  · unfold Entry.repeats reportNotice
    simp only [Bool.and_eq_true, Bool.or_eq_true, beq_iff_eq, decide_eq_true_iff, hs, hw, hstate, hindex, and_assoc]

/-- A cue about a train reads of the entry its train and its call. -/
theorem Device.cueAbout_congr {d : Device} {x e : Entry} (ht : x.train = e.train) (hh : x.held = e.held) (k : CueKind) (p : Nat) :
    d.cueAbout k x p = d.cueAbout k e p := by
  unfold Device.cueAbout
  rw [ht, hh]

/-- The cue of a report's move to APPROACHING (R171). -/
theorem Device.noticeCues_report (d : Device) (a y : Entry) :
    d.noticeCues (reportNotice a y) y = match y.held with
      | none => []
      | some h => if a.state ≠ .approaching ∧ y.state = .approaching then
          ((approachCue h.call.kind y.stop y.waiting).map fun k =>
            { kind := k.1, train := some a.train, platform := some h.call.platform, notice := none, priority := k.2
              second := d.clock.second }).toList
        else [] := by
  unfold Device.noticeCues
  cases hh : y.held with
  | none => simp [EntryNotice.cueFor, reportNotice, hh]
  | some h =>
    simp only [EntryNotice.cueFor, reportNotice, hh]
    split
    · rw [Option.bind_some]
      cases approachCue h.call.kind y.stop y.waiting <;> rfl
    · rfl

/-- The cue of a report that reaches the cutoff (R105). -/
theorem Device.cutoffCues_report (d : Device) (a y : Entry) :
    d.cutoffCues (reportNotice a y) y = match y.held with
      | none => []
      | some h => if belowCutoff a.lastIndex h.call = true ∧ belowCutoff y.lastIndex h.call = false ∧
          (y.stop = .pending ∨ y.stop = .sent) ∧ y.lastIndex ≠ some 7 then [d.cueAbout .mayNotStop y 2] else [] := by
  unfold Device.cutoffCues
  cases hh : y.held with
  | none => rfl
  | some h =>
    refine if_congr ?_ rfl rfl
    rw [Bool.and_eq_true, Bool.and_eq_true, reachesCutoff_iff, StopState.inProgress_iff, bne_iff_ne, and_assoc, and_assoc]
    rfl

/-- The cues that a report raises on the entry it makes (R86, R105, R171, R172). -/
theorem Device.raisedCues_report {d : Device} {e a y : Entry} (ha : a.core = { e.core with touched := true }) (hyt : y.train = e.train)
    (hh : y.held = e.held) (hs : y.stop = e.stop) (hw : y.waiting = e.waiting) (hcued : y.delayCued = e.delayCued) :
    d.raisedCues (reportNotice a y) y = d.reportCues e (d.noticed (reportNotice a y) y) := by
  have hstate : a.state = e.state := (Entry.field_of_core (y := { e with touched := true }) ha Entry.state fun _ => rfl)
  have hindex : a.lastIndex = e.lastIndex := (Entry.field_of_core (y := { e with touched := true }) ha Entry.lastIndex fun _ => rfl)
  have htrain : a.train = e.train := (Entry.field_of_core (y := { e with touched := true }) ha Entry.train fun _ => rfl)
  have hcore := d.noticed_core (reportNotice a y) (y := y) rfl
  have hstate' : (d.noticed (reportNotice a y) y).state = y.state := Entry.field_of_core hcore Entry.state fun _ => rfl
  have hindex' : (d.noticed (reportNotice a y) y).lastIndex = y.lastIndex := Entry.field_of_core hcore Entry.lastIndex fun _ => rfl
  unfold Device.raisedCues Device.reportCues
  congr 1
  · exact (d.delayedCues_eq false y).trans (by rw [hcued, Device.cueAbout_congr hyt hh]; rfl)
  · rw [hstate', hindex', d.cutoffCues_report, d.noticeCues_report, hh]
    cases hheld : e.held with
    | none => rfl
    | some h =>
      dsimp only
      rw [hindex, hs, hw, hstate, htrain, Device.cueAbout_congr hyt hh]
      congr 1
      refine if_congr .rfl ?_ rfl
      unfold approachCue Device.cueAbout
      rw [hheld]
      cases h.call.kind with
      | stop | pass => rfl
      | request =>
        dsimp only
        split
        · rfl
        · split <;> rfl

/-! ## The frame (R55, R58) -/

/-- A RUN frame in time is carried out as a report on the part it reaches, with T as R58 gives it. -/
theorem Device.runFrame_reaches {d : Device} {n point : Nat} {data : List Byte} {e : Entry} {time : Nat} (hm : d.Meets n e)
    (ht : d.RunTime n e (byteAt data 4) (u24At data 1) time) :
    ∃ u x, d.Reaches n e u ∧ clampReport x = time ∧ d.runFrame n point data = u.runReport n point (byteAt data 0) (u24At data 1) x := by
  unfold Device.runFrame
  cases hn : d.entry? n with
  | some x =>
    obtain rfl : x = e := by
      rcases hm with hs | ⟨hnone, -⟩
      · exact Option.some_inj.1 (hn.symm.trans hs)
      · exact absurd (hnone.symm.trans hn) nofun
    refine ⟨d, ?_⟩
    dsimp only
    rcases ht with ⟨hdate, htime⟩ | ⟨-, hnext, htime⟩
    · have hdate : byteAt data 4 = dateByte x.date := hdate
      rw [if_pos hdate]
      exact ⟨_, .of_entry hn, htime.symm, rfl⟩
    · have hne : byteAt data 4 ≠ dateByte x.date := fun h => by
        have hlt := x.date.isLt
        have hone : (1 : Date).toNat = 1 := rfl
        rw [h, dateByte, BitVec.toNat_add, hone] at hnext
        omega
      have hnext : byteAt data 4 = dateByte (x.date + 1) := hnext
      rw [if_neg hne, if_pos hnext]
      exact ⟨u24At data 1 + 86400, .of_entry hn, htime.symm, rfl⟩
  | none =>
    have hdate : e.date = d.clock.date := by
      obtain ⟨-, -, ⟨_, -, rfl⟩ | ⟨-, -, rfl⟩⟩ := Or.resolve_left hm (by simp [hn]) <;> rfl
    obtain ⟨hbyte, rfl⟩ := ht.resolve_right fun h => absurd (hn.symm.trans h.1) nofun
    have hbyte : byteAt data 4 = dateByte d.today := by rw [hbyte, hdate]; rfl
    obtain ⟨u, hu, hreach⟩ := Device.enterTrain_reaches hm hn
    dsimp only
    rw [if_pos hbyte, hu]
    exact ⟨u, _, hreach, rfl, rfl⟩

/-- What an entry in scope holds after a notice that has its train recomputed: the forecast delay of R78. -/
theorem Device.noticed_forecast {d : Device} {n : EntryNotice} (hn : n.cause.recomputes = true) {y : Entry} {h : HeldCall} {f : Int}
    (hh : y.held = some h) (hs : y.inScope d.clock.state = true) (hf : y.forecastDelay d.halt.early h.call = some f) :
    ∃ a b, (d.noticed n y).forecast = some { delay := f, arrival := a, departure := b } := by
  obtain ⟨fc, hfc, hdelay, -⟩ := Entry.recompute_forecast hh hf d.halt.dwell (d.entryTime y) false
  refine ⟨fc.arrival, fc.departure, ?_⟩
  rw [← hdelay]
  unfold Device.noticed Device.forecasted Device.recomputedEntry Device.recomputeResult
  rw [if_pos hn, if_pos hs]
  exact hfc

/-- What a report made on the entry `e`, once touched, writes: the fields of R61 or R62 by the point it is of. -/
theorem Entry.report_spec {e z : Entry} {own point time : Nat} {ev : RunEvent} (hj : e.judge own point ev ≠ .touchOnly)
    (hz : z = ({ e with touched := true } : Entry).report (e.judge own point ev) time ev) :
    (point = own → z.lastIndex = some 7 ∧ z.delay = e.delay ∧ z.haltArrival = (if ev = .arrived then some time else e.haltArrival) ∧
      e.MovedTo ev.haltState z) ∧
    (point ≠ own → e.held = none →
      z.lastIndex = e.lastIndex ∧ z.delay = e.delay ∧ z.haltArrival = e.haltArrival ∧ e.MovedTo .running z) ∧
    (∀ h k r, point ≠ own → e.held = some h → h.call.route[k]? = some r → r.point = point →
      (∀ j x, j < k → h.call.route[j]? = some x → x.point ≠ point) →
      z.lastIndex = some (k + 1) ∧ z.delay = some (max (-1800) (min 21600 ((time : Int) - r.passing))) ∧
      z.haltArrival = e.haltArrival ∧ e.MovedTo (if ∃ a, h.call.approach = some a ∧ a ≤ k + 1 then .approaching else .running) z) := by
  refine ⟨fun hp => ?_, fun hp hh => ?_, fun h k r hp hh hk hr hfirst => ?_⟩
  · rw [Entry.judge_own hp hj] at hz
    have hz : z = Entry.moveTo ev.haltState { e with
      touched := true, lastIndex := some 7, lastEvent := some ev, lastTime := some time
      haltArrival := if ev = .arrived then some time else e.haltArrival } := hz
    obtain ⟨h1, h2, h3⟩ := Entry.moveTo_keeps { e with
      touched := true, lastIndex := some 7, lastEvent := some ev, lastTime := some time
      haltArrival := if ev = .arrived then some time else e.haltArrival } ev.haltState
    rw [hz]
    refine ⟨h1, h2, h3, Entry.moveTo_movedTo ?_ ?_ _⟩ <;> rfl
  · rw [Entry.judge_unlisted hp hh hj] at hz
    have hz : z = Entry.moveTo .running { e with touched := true, lastEvent := some ev, lastTime := some time } := hz
    obtain ⟨h1, h2, h3⟩ := Entry.moveTo_keeps { e with touched := true, lastEvent := some ev, lastTime := some time } .running
    rw [hz]
    refine ⟨h1, h2, h3, Entry.moveTo_movedTo ?_ ?_ _⟩ <;> rfl
  · rw [Entry.judge_listed hp hh hk hr hfirst hj] at hz
    have hz : z = Entry.moveTo (e.routeState (k + 1)) { e with
      touched := true, lastIndex := some (k + 1), lastEvent := some ev, lastTime := some time
      delay := some (clampDelay time r.passing) } := hz
    obtain ⟨h1, h2, h3⟩ := Entry.moveTo_keeps { e with
      touched := true, lastIndex := some (k + 1), lastEvent := some ev, lastTime := some time
      delay := some (clampDelay time r.passing) } (e.routeState (k + 1))
    rw [← Entry.routeState_eq hh, hz]
    refine ⟨h1, h2, h3, Entry.moveTo_movedTo ?_ ?_ _⟩ <;> rfl

/-- A state move reads of an entry its state and its state before cancel. -/
theorem Entry.MovedTo.congr {e x y : Entry} {s : RunState} (h : e.MovedTo s x) (hs : y.state = x.state)
    (hb : y.beforeCancel = x.beforeCancel) : e.MovedTo s y := by
  unfold Entry.MovedTo at *
  rwa [hs, hb]

/-- What a report of the judgement `j` on the entry `e` that a frame of train `n` meets leaves of the part `d`: the entry, touched,
has taken the report and its notice, which has raised its cues (R59 to R64). -/
structure Device.Reported (d : Device) (n : Nat) (e : Entry) (j : RunJudgement) (time : Nat) (ev : RunEvent) (t : Device) : Prop where
  others : d.OthersStay t n
  frame : t = { d with line := t.line, table := { d.table with entries := t.table.entries }, sru := t.sru, board := t.board
                       cues := t.cues, co := t.co, ports := t.ports, sched := t.sched }
  quiet : t.ports.quiet = d.ports.quiet
  entry : ∃ x y : Entry, x.core = { e.core with touched := true } ∧ y = x.report j time ev ∧
    t.entry? n = some (d.noticed (reportNotice x y) y) ∧
    ((d.entry? n = none → d.tt.Lawful ∧ d.halt.dwell ≤ 120) → x.delayCued = e.delayCued ∧
      ∃ cs : List Cue, cs.Perm (d.raisedCues (reportNotice x y) y) ∧ t.cues = cs.foldl offerTo d.cues ∧
        (d.cues = [] → cs ≠ [] → t.hasFlag .cuePending = true))

/-- A new report, its last hit aside (R39, R58 to R60). -/
theorem Device.runFrame_reported {d : Device} {n point : Nat} {data : List Byte} {e : Entry} {ev : RunEvent} {time : Nat}
    (hm : d.Meets n e) (ht : d.RunTime n e (byteAt data 4) (u24At data 1) time) (hev : RunEvent.ofCode (byteAt data 0) = some ev)
    (hsecond : u24At data 1 ≤ 86399) (hj : e.judge d.halt.ownPoint point ev ≠ .touchOnly) :
    d.Reported n e (e.judge d.halt.ownPoint point ev) time ev (d.runFrame n point data) := by
  obtain ⟨u, T, hreach, hT, hrun⟩ := Device.runFrame_reaches (point := point) hm ht
  obtain ⟨x, hx, hcore, hfresh⟩ := hreach.entry
  obtain ⟨a, ha⟩ : ∃ a : Entry, a = { x with touched := true } := ⟨_, rfl⟩
  obtain ⟨y, hy⟩ : ∃ y, y = a.report (e.judge d.halt.ownPoint point ev) time ev := ⟨_, rfl⟩
  have hacore : a.core = ({ e with touched := true } : Entry).core := by
    rw [ha]
    exact congrArg (fun c : Entry => { c with touched := true }) hcore
  have hjudge : a.judge u.halt.ownPoint point ev = e.judge d.halt.ownPoint point ev := by
    rw [show u.halt = d.halt by rw [hreach.frame]]
    exact congrFun (congrFun (Entry.judge_of_core (e := { e with touched := true }) hacore _) _) _
  have hxn : a.train = n := by rw [ha]; exact Device.train_of_entry? (e := x) hx
  have htrain : y.train = a.train := by
    obtain ⟨-, -, htrain, -⟩ := a.report_keeps (e.judge d.halt.ownPoint point ev) time ev
    rw [hy, htrain]
  have hacted : d.runFrame n point data = (u.acted n y).deliver (reportNotice a y) := by
    rw [hrun]
    unfold Device.runReport
    rw [Device.touch_entry? hx, hev]
    dsimp only
    rw [← ha, hjudge, if_neg (not_or.2 ⟨by omega, hj⟩), hT, ← hy]
    rfl
  obtain ⟨hentry, hothers, hframe, hquiet, cs, hperm, hcues, htold⟩ := hreach.acted hx (htrain.trans hxn) hxn hacted
  refine ⟨hothers, hframe, hquiet, a, y, hacore, hy, hentry, fun hlawful => ?_⟩
  obtain ⟨hcued, hucues⟩ := hfresh hlawful
  rw [hucues] at hcues htold
  exact ⟨by rw [ha]; exact hcued, cs, hperm, hcues, htold⟩

/-- Settles O39: the frame makes the entry it reaches into its report, and the receivers of the notice write the forecast, the
request and the cues. -/
theorem runFrameRecordsANewReport : Obligations.RunFrameRecordsANewReport := by
  unfold Obligations.RunFrameRecordsANewReport
  intro s train point data e ev time h
  obtain ⟨d, hd⟩ : ∃ d, d = s.dev.setLastHit (s.dev.line.hitOf
    { kind := 1, train := train, point := point, data := data : LineFrame }.ident) := ⟨_, rfl⟩
  obtain ⟨t, ht⟩ : ∃ t, t = d.runFrame train.toNat point.toNat data := ⟨_, rfl⟩
  have hreported := Device.runFrame_reported (d := d) (point := point.toNat) (by rw [hd]; exact h.entry) (by rw [hd]; exact h.timed)
    h.event h.sized.2 (by rw [hd]; exact h.judge)
  rw [← ht] at hreported
  have hexec : exec (.runFrame train point data) s = .next { s with dev := t } := by
    rw [ht, hd, ← Device.dispatch_run h.number h.sized.1, ← h.heard.lineEvent]
    rfl
  obtain ⟨hothers, hframe, hquiet, a, y, hacore, hy, hentry, hcues⟩ := hreported
  rw [hd] at hothers hy hcues
  obtain ⟨z, hz⟩ : ∃ z, z = ({ e with touched := true } : Entry).report (e.judge s.dev.halt.ownPoint point.toNat ev) time ev := ⟨_, rfl⟩
  have hy : y = a.report (e.judge s.dev.halt.ownPoint point.toNat ev) time ev := hy
  have hyz : y.core = z.core := by
    rw [hy, hz, Entry.report_core, Entry.report_core, hacore]
    rfl
  have hfields := Entry.report_fields (e := a) h.judge time ev
  have hzfields := Entry.report_fields (e := { e with touched := true }) h.judge time ev
  rw [← hy] at hfields
  rw [← hz] at hzfields
  obtain ⟨nt, hnt⟩ : ∃ nt, nt = reportNotice a y := ⟨_, rfl⟩
  have hnt' : nt = reportNotice e z := hnt.trans (reportNotice_of_core (a' := { e with touched := true }) hacore hyz)
  obtain ⟨e', he'⟩ : ∃ e', e' = d.noticed nt y := ⟨_, rfl⟩
  rw [← hnt, ← he'] at hentry
  have hcore' : e'.core = (z.withStop (nt.stopAfter z)).core := he' ▸ d.noticed_core nt hyz
  have hfield : ∀ {β : Type} (g : Entry → β), (∀ e : Entry, g e.core = g e) → g e' = g (z.withStop (nt.stopAfter z)) :=
    fun g hg => Entry.field_of_core hcore' g hg
  have hstate' : e'.state = z.state := hfield Entry.state fun _ => rfl
  have hbefore' : e'.beforeCancel = z.beforeCancel := hfield Entry.beforeCancel fun _ => rfl
  have hindex' : e'.lastIndex = z.lastIndex := hfield Entry.lastIndex fun _ => rfl
  have hdelay' : e'.delay = z.delay := hfield Entry.delay fun _ => rfl
  have harrival' : e'.haltArrival = z.haltArrival := hfield Entry.haltArrival fun _ => rfl
  have hstop' : e'.stop = nt.stopAfter z := hfield Entry.stop fun _ => rfl
  have hzheld : z.held = e.held := by rw [hzfields]
  have hzstop : z.stop = e.stop := by rw [hzfields]
  have hzwaiting : z.waiting = e.waiting := by rw [hzfields]
  obtain ⟨hhalt, haway, hroute⟩ := Entry.report_spec h.judge hz
  refine ⟨{ s with dev := t }, e', hexec, ⟨rfl, hquiet.trans (by rw [hd]; rfl)⟩, hentry, hothers, hframe.trans (by rw [hd]; rfl), ?_,
    fun hp => ?_, fun hp hh => ?_, fun c k r hp hh hk hr hfirst => ?_, fun hh => ?_, fun c hc => ?_, fun hlawful => ?_, fun c f hc hs hf => ?_⟩
  · rw [hstate', hbefore', hindex', hdelay', harrival', hcore', ← hstop']
    conv_lhs => rw [hzfields]
    rfl
  · rw [hindex', hdelay', harrival']
    obtain ⟨h1, h2, h3, h4⟩ := hhalt hp
    refine ⟨h1, h2, h3, ?_⟩
    cases ev <;> exact h4.congr hstate' hbefore'
  · rw [hindex', hdelay', harrival']
    obtain ⟨h1, h2, h3, h4⟩ := haway hp hh
    exact ⟨h1, h2, h3, h4.congr hstate' hbefore'⟩
  · rw [hindex', hdelay', harrival']
    obtain ⟨h1, h2, h3, h4⟩ := hroute c k r hp hh hk hr hfirst
    exact ⟨h1, h2, h3, h4.congr hstate' hbefore'⟩
  · rw [hstop', hnt', ← hzstop]
    unfold EntryNotice.stopAfter reportNotice
    rw [hzheld, hh]
  · rw [hstop', hnt']
    exact stopAfter_eq_stopAfterReport (hzheld.trans hc) hzstop hzwaiting hstate' hindex'
  · obtain ⟨hcued, cs, hperm, hoffered, htold⟩ := hcues hlawful
    have hyfield : ∀ {β : Type} (g : Entry → β), (∀ e : Entry, g e.core = g e) → g y = g z := fun g hg => Entry.field_of_core hyz g hg
    have hraised : s.dev.raisedCues (reportNotice a y) y = s.dev.reportCues e e' := by
      rw [he', hnt, hd]
      refine Device.raisedCues_report hacore ((hyfield Entry.train fun _ => rfl).trans (by rw [hzfields]))
        ((hyfield Entry.held fun _ => rfl).trans hzheld) ((hyfield Entry.stop fun _ => rfl).trans hzstop)
        ((hyfield Entry.waiting fun _ => rfl).trans hzwaiting) ?_
      rw [hfields]
      exact hcued
    have hperm : cs.Perm (s.dev.reportCues e e') := hraised ▸ hperm
    refine ⟨⟨cs, hperm, hoffered⟩, fun hempty hne => htold hempty fun hcs => hne ?_⟩
    rw [hcs] at hperm
    exact hperm.nil_eq.symm
  · have hyheld : y.held = some c := (Entry.field_of_core hyz Entry.held fun _ => rfl).trans (hzheld.trans hc)
    have hyfield : ∀ {β : Type} (g : Entry → β), (∀ e : Entry, g e.core = g e) → (∀ e s, g (Entry.withStop e s) = g e) → g e' = g y :=
      fun g hg hs => (hfield g hg).trans ((hs z _).trans (Entry.field_of_core hyz g hg).symm)
    rw [hyfield (fun e => e.inScope s.dev.clock.state) (fun _ => rfl) fun _ _ => rfl] at hs
    rw [hyfield (fun e => e.forecastDelay s.dev.halt.early c.call) (fun _ => rfl) fun _ _ => rfl] at hf
    rw [he']
    exact Device.noticed_forecast (by rw [hnt]; rfl) hyheld (by rw [hd]; exact hs) (by rw [hd]; exact hf)

end Sys2Proof.Machine

/-! # SERVICE frames -/

namespace Sys2Proof.Machine

/-! ## The actions on an entry (R66 to R68) -/

/-- An action reads of the entry what its core holds. -/
theorem Entry.service_core (e : Entry) (a : ServiceAction) : e.core.service a = (e.service a).map fun r => (r.1.core, r.2) := by
  unfold Entry.service
  have hs : e.core.state = e.state := rfl
  have hb : e.core.beforeCancel = e.beforeCancel := rfl
  have hh : e.core.held = e.held := rfl
  rw [hs, hb, hh]
  cases a with
  | cancel => cases e.state <;> rfl
  | reinstate =>
    cases e.state with
    | cancelled => cases e.beforeCancel <;> rfl
    | expected | running | approaching | atHalt | departed | passed => rfl
  | platform new =>
    cases e.held with
    | none => rfl
    | some h =>
      dsimp only
      split <;> rfl

/-- An action on an entry of the same core: it makes an entry of the same core, for the same cause. -/
theorem Entry.service_of_core {x e z : Entry} (h : x.core = e.core) {a : ServiceAction} {cause : NoticeCause}
    (hz : e.service a = some (z, cause)) : ∃ y, x.service a = some (y, cause) ∧ y.core = z.core := by
  have hx := x.service_core a
  rw [h, e.service_core a, hz] at hx
  obtain ⟨⟨y, c⟩, hy, heq⟩ := Option.map_eq_some_iff.1 hx.symm
  have heq : (y.core, c) = (z.core, cause) := heq
  obtain ⟨hcore, rfl⟩ := Prod.mk.inj heq
  exact ⟨y, hy, hcore⟩

theorem Entry.service_none_of_core {x e : Entry} (h : x.core = e.core) {a : ServiceAction} (hz : e.service a = none) :
    x.service a = none := by
  have hx := x.service_core a
  rw [h, e.service_core a, hz] at hx
  exact Option.map_eq_none_iff.1 hx.symm

/-- A CANCEL of an entry that runs or is expected (R66). -/
theorem Entry.service_cancel {e : Entry} (h : e.state = .expected ∨ e.state = .running ∨ e.state = .approaching ∨ e.state = .atHalt) :
    e.service .cancel = some ({ e with state := .cancelled, beforeCancel := some e.state }, .cancel) := by
  unfold Entry.service
  rcases h with h | h | h | h <;> rw [h]

theorem Entry.service_cancel_none {e : Entry} (h : e.state = .cancelled ∨ e.state = .departed ∨ e.state = .passed) :
    e.service .cancel = none := by
  unfold Entry.service
  rcases h with h | h | h <;> rw [h]

/-- A REINSTATE of a cancelled entry (R67). -/
theorem Entry.service_reinstate {e : Entry} (h : e.state = .cancelled) {b : RunState} (hb : e.beforeCancel = some b) :
    e.service .reinstate = some ({ e with state := b, beforeCancel := none }, .reinstate) := by
  unfold Entry.service
  rw [h, hb]

theorem Entry.service_reinstate_none {e : Entry} (h : e.state = .cancelled → e.beforeCancel = none) : e.service .reinstate = none := by
  unfold Entry.service
  by_cases hs : e.state = .cancelled
  · rw [hs, h hs]
  · cases hstate : e.state with
    | cancelled => exact absurd hstate hs
    | expected | running | approaching | atHalt | departed | passed => rfl

/-- A PLATFORM that gives the held call another platform (R68). -/
theorem Entry.service_platform {e : Entry} {c : HeldCall} (hc : e.held = some c) (hdep : e.state ≠ .departed) (hpass : e.state ≠ .passed)
    {new : Nat} (h1 : 1 ≤ new) (h4 : new ≤ 4) (hne : new ≠ c.call.platform) :
    e.service (.platform new) = some ({ e with held := some (c.onPlatform new) }, .platform c.call.platform new) := by
  unfold Entry.service
  rw [hc]
  exact if_neg (by simp only [not_or]; exact ⟨hdep, hpass, by omega, by omega, hne⟩)

theorem Entry.service_platform_none {e : Entry} {new : Nat}
    (h : ∀ c, e.held = some c → e.state = .departed ∨ e.state = .passed ∨ new < 1 ∨ 4 < new ∨ new = c.call.platform) :
    e.service (.platform new) = none := by
  unfold Entry.service
  cases hc : e.held with
  | none => rfl
  | some c => exact if_pos (h c hc)

/-! ## The frame (R65) -/

/-- What a SERVICE frame leaves beside the entry and the cues: no other entry changes but one that made way (R56, R65). -/
structure Device.Served (d : Device) (n : Nat) (t : Device) : Prop where
  others : d.OthersStay t n
  frame : t = { d with line := t.line, table := { d.table with entries := t.table.entries }, sru := t.sru, board := t.board
                       cues := t.cues, co := t.co, ports := t.ports, sched := t.sched }
  quiet : t.ports.quiet = d.ports.quiet

/-- A SERVICE frame whose action is carried out on the entry it meets, touched (R65 to R68). -/
theorem Device.serviceFrame_acts {d : Device} {n : Nat} {e z : Entry} {data : List Byte} (hm : d.Meets n e) {a : ServiceAction}
    (ha : ServiceAction.ofData data = some a) {cause : NoticeCause} (hz : ({ e with touched := true } : Entry).service a = some (z, cause)) :
    ∃ e', (d.serviceFrame n data).entry? n = some e' ∧ d.Served n (d.serviceFrame n data) ∧
      e'.core = (z.withStop ((serviceNotice e z cause).stopAfter z)).core ∧
      (d.entry? n = some e → e' = d.noticed (serviceNotice e z cause) z ∧
        ∀ c, d.raisedCues (serviceNotice e z cause) z = [c] → (d.serviceFrame n data).cues = offerTo d.cues c) := by
  have hreach := Device.ensureEntry_reaches hm
  obtain ⟨u, hu⟩ : ∃ u, u = d.ensureEntry n := ⟨_, rfl⟩
  rw [← hu] at hreach
  obtain ⟨x, hx, hcore, -⟩ := hreach.entry
  have htouch : ({ x with touched := true } : Entry).core = ({ e with touched := true } : Entry).core :=
    congrArg (fun c : Entry => { c with touched := true }) hcore
  obtain ⟨y, hy, hyz⟩ := Entry.service_of_core htouch hz
  have hxn : ({ x with touched := true } : Entry).train = n := Device.train_of_entry? (e := x) hx
  have hyn : y.train = n := by
    rcases Entry.service_cases hy with ⟨-, h, -⟩ | ⟨c, new, -, -, rfl, -⟩
    · exact h.trans hxn
    · exact hxn
  have hacted : d.serviceFrame n data = (u.acted n y).deliver (serviceNotice { x with touched := true } y cause) := by
    unfold Device.serviceFrame Device.serviceAct
    rw [ha]
    dsimp only
    rw [← hu, Device.touch_entry? hx, Option.bind_some, hy]
    rfl
  have hnt : serviceNotice { x with touched := true } y cause = serviceNotice e z cause := by
    unfold serviceNotice
    rw [Entry.field_of_core hyz Entry.state fun _ => rfl, Entry.field_of_core hyz Entry.lastIndex fun _ => rfl,
      Entry.field_of_core htouch Entry.train fun _ => rfl, Entry.field_of_core htouch Entry.date fun _ => rfl,
      Entry.field_of_core htouch Entry.state fun _ => rfl, Entry.field_of_core htouch Entry.lastIndex fun _ => rfl]
  obtain ⟨hentry, hothers, hframe, hquiet, cs, hperm, hcues, -⟩ := hreach.acted hx hyn hxn hacted
  rw [hnt] at hentry hperm
  refine ⟨_, hentry, ⟨hothers, hframe, hquiet⟩, d.noticed_core _ hyz, fun hsame => ?_⟩
  have hud := hreach.stays e hsame
  rw [hud, hsame] at hx
  obtain rfl := Option.some_inj.1 hx
  obtain rfl : y = z := by
    rw [hz] at hy
    exact (congrArg Prod.fst (Option.some_inj.1 hy)).symm
  refine ⟨rfl, fun c hc => ?_⟩
  rw [hc] at hperm
  rw [hcues, List.perm_singleton.1 hperm, hud]
  rfl

/-- A SERVICE frame that carries no action for the entry it meets touches it (R65 to R68). -/
theorem Device.serviceFrame_touches {d : Device} {n : Nat} {e : Entry} {data : List Byte} (hm : d.Meets n e)
    (hno : ∀ a, ServiceAction.ofData data = some a → ({ e with touched := true } : Entry).service a = none) :
    ∃ e', (d.serviceFrame n data).entry? n = some e' ∧ d.Served n (d.serviceFrame n data) ∧ e'.core = { e.core with touched := true } := by
  have hreach := Device.ensureEntry_reaches hm
  obtain ⟨x, hx, hcore, -⟩ := hreach.entry
  have htouch : ({ x with touched := true } : Entry).core = ({ e with touched := true } : Entry).core :=
    congrArg (fun c : Entry => { c with touched := true }) hcore
  have hframe : d.serviceFrame n data = (d.ensureEntry n).touch n := by
    unfold Device.serviceFrame
    cases ha : ServiceAction.ofData data with
    | none => rfl
    | some a =>
      dsimp only
      unfold Device.serviceAct
      rw [Device.touch_entry? hx, Option.bind_some, Entry.service_none_of_core htouch (hno a ha)]
      rfl
  obtain ⟨hothers, heq, hquiet⟩ := hreach.touch
  rw [← hframe] at hothers heq hquiet
  exact ⟨_, by rw [hframe]; exact Device.touch_entry? hx, ⟨hothers, heq, hquiet⟩, htouch⟩

/-- An action that data of two bytes or more carry (R65). -/
theorem ServiceAction.ofData_cons (c b : Byte) (rest : List Byte) :
    ServiceAction.ofData (c :: b :: rest) = match c.toNat with
      | 1 => some .cancel
      | 2 => some .reinstate
      | 3 => some (.platform b.toNat)
      | _ => none := by
  unfold ServiceAction.ofData
  rw [if_neg (by simp only [List.length_cons]; omega)]
  rfl

/-- Data that carry no action (R65, log 5). -/
theorem ServiceAction.ofData_none {data : List Byte} (h : data.length < 2 ∨ byteAt data 0 = 0 ∨ 4 ≤ byteAt data 0) :
    ServiceAction.ofData data = none := by
  unfold ServiceAction.ofData
  split
  · rfl
  · next hlen =>
    have hcode := h.resolve_left hlen
    split
    · omega
    · omega
    · omega
    · rfl

/-- The cue of a CANCEL (R172). -/
theorem Device.raisedCues_cancel {d : Device} {n : EntryNotice} (hn : n.cause = .cancel) (z : Entry) :
    d.raisedCues n z = [{ kind := .cancelled, train := some n.train, platform := z.held.map (fun h => h.call.platform), notice := none
                          priority := 2, second := d.clock.second }] := by
  unfold Device.raisedCues Device.forecastCues Device.cutoffCues Device.noticeCues EntryNotice.cueFor
  rw [hn]
  rfl

/-- The cue of a PLATFORM (R172). -/
theorem Device.raisedCues_platform {d : Device} {n : EntryNotice} {p q : Nat} (hn : n.cause = .platform p q) (z : Entry) :
    d.raisedCues n z = [{ kind := .platformChange, train := some n.train, platform := some q, notice := none, priority := 2
                          second := d.clock.second }] := by
  unfold Device.raisedCues Device.forecastCues Device.cutoffCues Device.noticeCues EntryNotice.cueFor
  rw [hn]
  rfl

/-- The stop state that a CANCEL leaves (R107). -/
theorem EntryNotice.stopAfter_cancel {n : EntryNotice} (hn : n.cause = .cancel) (z : Entry) :
    n.stopAfter z = if z.stop = .pending ∨ z.stop = .sent then .none else z.stop := by
  unfold EntryNotice.stopAfter
  rw [hn]
  exact if_congr StopState.inProgress_iff rfl rfl

/-- The stop state that a REINSTATE leaves (R107). -/
theorem EntryNotice.stopAfter_reinstate {n : EntryNotice} (hn : n.cause = .reinstate) (z : Entry) :
    n.stopAfter z = if z.stop = .none ∧ 1 ≤ z.waiting ∧ (z.state = .expected ∨ z.state = .running ∨ z.state = .approaching) ∧
      (∃ h, z.held = some h ∧ h.call.kind = .request ∧ belowCutoff z.lastIndex h.call = true) then .pending else z.stop := by
  unfold EntryNotice.stopAfter Entry.remade
  rw [hn]
  refine if_congr ?_ rfl rfl
  simp only [Bool.and_eq_true, Bool.or_eq_true, beq_iff_eq, decide_eq_true_iff, Option.any_eq_true, and_assoc, or_assoc]

/-- What a SERVICE frame makes of the entry it meets: its action is carried out, or the frame is a touch (R65 to R68). -/
theorem Device.serviceFrame_spec {d : Device} {n : Nat} {e : Entry} (hm : d.Meets n e) (data : List Byte) :
    ∃ e', (d.serviceFrame n data).entry? n = some e' ∧ d.Served n (d.serviceFrame n data) ∧
      ((∀ a, ServiceAction.ofData data = some a → ({ e with touched := true } : Entry).service a = none) →
        e'.core = { e.core with touched := true }) ∧
      ∀ a z cause, ServiceAction.ofData data = some a → ({ e with touched := true } : Entry).service a = some (z, cause) →
        e'.core = (z.withStop ((serviceNotice e z cause).stopAfter z)).core ∧
        (d.entry? n = some e → e' = d.noticed (serviceNotice e z cause) z ∧
          ∀ c, d.raisedCues (serviceNotice e z cause) z = [c] → (d.serviceFrame n data).cues = offerTo d.cues c) := by
  by_cases hno : ∀ a, ServiceAction.ofData data = some a → ({ e with touched := true } : Entry).service a = none
  · obtain ⟨e', hentry, hserved, hcore⟩ := Device.serviceFrame_touches hm hno
    exact ⟨e', hentry, hserved, fun _ => hcore, fun a z cause ha hz => absurd ((hno a ha).symm.trans hz) nofun⟩
  · simp only [not_forall] at hno
    obtain ⟨a, ha, hsome⟩ := hno
    obtain ⟨⟨z, cause⟩, hz⟩ := Option.ne_none_iff_exists'.1 hsome
    obtain ⟨e', hentry, hserved, -⟩ := Device.serviceFrame_acts hm ha hz
    refine ⟨e', hentry, hserved, fun hnone => absurd (hnone a ha) hsome, fun a' z' cause' ha' hz' => ?_⟩
    obtain ⟨e'', hentry', -, hrest⟩ := Device.serviceFrame_acts hm ha' hz'
    rwa [← Option.some_inj.1 (hentry'.symm.trans hentry)]

/-- The action that the data of a SERVICE row carry (R65). -/
theorem Device.ServiceTaken.ofData_eq {d : Device} {i : Instr} {train : BitVec 14} {point : BitVec 11} {data : List Byte} {e : Entry}
    (h : d.ServiceTaken i train point data e) :
    ((∃ p r, i = .cancel train p r) → ServiceAction.ofData data = some .cancel) ∧
    ((∃ p r, i = .reinstate train p r) → ServiceAction.ofData data = some .reinstate) ∧
    (∀ p b r, i = .platform train p (b :: r) → ServiceAction.ofData data = some (.platform b.toNat)) ∧
    (i = .serviceFrameTouchOnly train point data → ServiceAction.ofData data = none) := by
  rcases h.row with ⟨b, rest, rfl, rfl⟩ | ⟨b, rest, rfl, rfl⟩ | ⟨b, rest, rfl, rfl⟩ | ⟨rfl, hno⟩
  · refine ⟨fun _ => ?_, nofun, nofun, nofun⟩
    rw [ServiceAction.ofData_cons]
    rfl
  · refine ⟨nofun, fun _ => ?_, nofun, nofun⟩
    rw [ServiceAction.ofData_cons]
    rfl
  · refine ⟨nofun, nofun, fun p b' r heq => ?_, nofun⟩
    cases heq
    rw [ServiceAction.ofData_cons]
    rfl
  · exact ⟨nofun, nofun, nofun, fun _ => ServiceAction.ofData_none hno⟩

/-- Settles O41: each action is carried out on the entry met, touched, with its notice, or it is a touch. -/
theorem serviceActionsActOnTheEntry : Obligations.ServiceActionsActOnTheEntry := by
  unfold Obligations.ServiceActionsActOnTheEntry
  intro s i train point data e h
  obtain ⟨d, hd⟩ : ∃ d, d = s.dev.setLastHit (s.dev.line.hitOf
    { kind := 2, train := train, point := point, data := data : LineFrame }.ident) := ⟨_, rfl⟩
  obtain ⟨e', hentry, hserved, htouch, hact⟩ := Device.serviceFrame_spec (d := d) (by rw [hd]; exact h.entry) data
  obtain ⟨t, ht⟩ : ∃ t, t = d.serviceFrame train.toNat data := ⟨_, rfl⟩
  have hexec : exec i s = .next { s with dev := t } := by
    rw [h.exec_eq, ht, hd]
    exact congrArg (fun x => Host.Outcome.next { s with dev := x })
      (h.heard.lineEvent.trans (Device.dispatch_service h.number h.sized))
  rw [← ht] at hentry hserved hact
  have htouches : ∀ {a : ServiceAction}, ServiceAction.ofData data = some a → ({ e with touched := true } : Entry).service a = none →
      e'.core = { e.core with touched := true } := fun ha hno => htouch fun a' ha' => Option.some_inj.1 (ha.symm.trans ha') ▸ hno
  have hin : s.dev.entry? train.toNat = some e → d.entry? train.toNat = some e := fun he => by rw [hd]; exact he
  have hcues : d.cues = s.dev.cues := by rw [hd]; rfl
  have hsecond : d.clock.second = s.dev.clock.second := by rw [hd]; rfl
  obtain ⟨hcancel, hreinstate, hplatform, hnone⟩ := h.ofData_eq
  refine ⟨{ s with dev := t }, e', hexec, ⟨rfl, hserved.quiet.trans (by rw [hd]; rfl)⟩, hentry, ?_, hserved.frame.trans (by rw [hd]; rfl),
    fun hrow => ⟨fun hfour => ?_, fun hgone => ?_⟩, fun hrow => ⟨fun b hs hb => ?_, fun hs => ?_⟩,
    fun p b r hrow => ⟨fun c hc hdep hpass h1 h4 hne => ?_, fun hall => ?_⟩, fun hrow => ?_⟩
  · have hothers := hserved.others
    rw [hd] at hothers
    exact hothers
  · obtain ⟨hcore, hsame⟩ := hact _ _ _ (hcancel hrow) (Entry.service_cancel (e := { e with touched := true }) hfour)
    refine ⟨?_, fun he => ?_⟩
    · rw [hcore, EntryNotice.stopAfter_cancel rfl]
      rfl
    · obtain ⟨he', hcue⟩ := hsame (hin he)
      rw [he', hcue _ (Device.raisedCues_cancel rfl _), hcues, hsecond]
      refine ⟨rfl, ?_⟩
      rw [← Device.train_of_entry? he]
      rfl
  · exact htouches (hcancel hrow) (Entry.service_cancel_none (e := { e with touched := true }) hgone)
  · obtain ⟨hcore, -⟩ := hact _ _ _ (hreinstate hrow) (Entry.service_reinstate (e := { e with touched := true }) hs hb)
    rw [hcore, EntryNotice.stopAfter_reinstate rfl]
    rfl
  · exact htouches (hreinstate hrow) (Entry.service_reinstate_none (e := { e with touched := true }) fun hc => absurd hc hs)
  · obtain ⟨hcore, hsame⟩ := hact _ _ _ (hplatform p b r hrow)
      (Entry.service_platform (e := { e with touched := true }) hc hdep hpass h1 h4 hne)
    refine ⟨hcore, fun he => ?_⟩
    rw [(hsame (hin he)).2 _ (Device.raisedCues_platform rfl _), hcues, hsecond, ← Device.train_of_entry? he]
    rfl
  · refine htouches (hplatform p b r hrow) (Entry.service_platform_none fun c hc => ?_)
    rcases hall c hc with h | h | rfl | h | h
    · exact .inl h
    · exact .inr (.inl h)
    · exact .inr (.inr (.inl Nat.zero_lt_one))
    · exact .inr (.inr (.inr (.inl h)))
    · exact .inr (.inr (.inr (.inr h)))
  · exact htouch fun a ha => absurd ((hnone hrow).symm.trans ha) nofun

end Sys2Proof.Machine

/-! # Requests and the trains entered for them -/

namespace Sys2Proof.Machine

/-! ## Adding to a request (R94, R97) -/

/-- An entry whose request counts `n` passengers more, with a sale watch where a sale adds them (R94, R97). -/
def Entry.joined (n : Nat) (watch : Bool) (e : Entry) : Entry :=
  { e with waiting := raiseWaiting n e.waiting, saleWatch := e.saleWatch || watch }

/-- An entry whose request has taken `n` passengers: NONE has become PENDING (R94, R97). -/
def Entry.requested (n : Nat) (watch : Bool) (e : Entry) : Entry :=
  (e.joined n watch).withStop (if e.stop = .none then .pending else e.stop)

theorem Entry.requested_core (n : Nat) (watch : Bool) (e : Entry) : (e.requested n watch).core = e.core.requested n watch := rfl

theorem Device.addToRequest_eq (d : Device) (t n : Nat) (watch : Bool) :
    d.addToRequest t n watch = ((d.updateEntry t (Entry.joined n watch)).when ((d.entry? t).any fun e => e.stop == .none)
      (Device.setStop t .pending)).selectIfEligible t := rfl

theorem Device.joined_entry? (d : Device) (t n : Nat) (watch : Bool) :
    (d.updateEntry t (Entry.joined n watch)).entry? t = (d.entry? t).map (Entry.joined n watch) :=
  Device.updateEntry_entry? fun _ h => h

theorem Device.addToRequest_takes (d : Device) (t n : Nat) (watch : Bool) :
    d.Takes t (Entry.requested n watch) (fun _ => []) (d.addToRequest t n watch) := by
  have hjoin : d.Takes t (Entry.joined n watch) (fun _ => []) (d.updateEntry t (Entry.joined n watch)) :=
    { writes := .updateEntry d fun _ h => h, clock := rfl, halt := rfl, flags := .of_ports rfl
      cues := by cases d.entry? t <;> rfl
      told := fun _ h => absurd (by cases d.entry? t <;> rfl) h }
  have hset : (d.updateEntry t (Entry.joined n watch)).Takes t (fun x => x.withStop (if x.stop = .none then .pending else x.stop))
      (fun _ => []) ((d.updateEntry t (Entry.joined n watch)).when ((d.entry? t).any fun e => e.stop == .none)
        (Device.setStop t .pending)) := by
    refine .guarded (fun hc => (Device.Takes.setStop t _ .pending).congr fun y hy => ?_) fun hc y hy => ?_
    all_goals
      rw [Device.joined_entry?] at hy
      obtain ⟨x, hx, rfl⟩ := Option.map_eq_some_iff.1 hy
      rw [hx, Option.any_some] at hc
    · exact ⟨by rw [if_pos (show (x.joined n watch).stop = .none from beq_iff_eq.1 hc)], rfl⟩
    · exact ⟨by rw [if_neg (show (x.joined n watch).stop ≠ .none from beq_eq_false_iff_ne.1 hc)]; rfl, rfl⟩
  exact ((hjoin.trans hset).trans (Device.Takes.selectIfEligible t t _)).congr fun _ _ => ⟨rfl, rfl⟩

/-- The pages after a change of a stop state that a list shows (R93, R162). -/
theorem Device.setStop_composed {d : Device} {t : Nat} {e : Entry} (he : d.entry? t = some e) {s : StopState} (hs : e.stop ≠ s)
    (hh : d.board.Holds t) : (d.setStop t s).Composed := by
  unfold Device.setStop
  rw [he]
  dsimp only
  rw [if_neg hs]
  unfold Device.stopNotice Device.recomposeFor Device.when
  rw [if_pos]
  · exact Device.recompose_composed _
  · rw [Board.lists_hold_iff]
    simpa only [Device.refreshLamps_frame, Device.setFlagIf_frame, Device.updateEntry_frame] using hh

/-- What adding to a request leaves of the board: the pages alone may change, and they do where it makes a request of NONE in a
train that a list holds (R93, R162). -/
theorem Device.addToRequest_pages (d : Device) (t n : Nat) (watch : Bool) :
    (d.addToRequest t n watch).board = { d.board with screens := (d.addToRequest t n watch).board.screens } ∧
      d.PageStep (d.addToRequest t n watch) ∧
      ∀ e, d.entry? t = some e → e.stop = .none → d.board.Holds t → (d.addToRequest t n watch).Composed := by
  obtain ⟨w, hw⟩ : ∃ w, w = d.updateEntry t (Entry.joined n watch) := ⟨_, rfl⟩
  have hadd := d.addToRequest_eq t n watch
  rw [← hw] at hadd
  have hset := Device.Aside.guarded ((d.entry? t).any fun e => e.stop == .none) (Device.Aside.setStop t w .pending)
  have hselect := Device.Aside.selectIfEligible t t (w.when ((d.entry? t).any fun e => e.stop == .none) (Device.setStop t .pending))
  have hboth := hset.trans hselect
  rw [← hadd] at hselect hboth
  have hboard : w.board = d.board := by rw [hw]; rfl
  refine ⟨?_, (Device.PageStep.of_screens (by rw [hboard]) (.of_ports (by rw [hw]; rfl))).trans hboth.pages.step, fun e he hs hh => ?_⟩
  · rw [← hboard]
    exact congrArg Device.board hboth.frame
  · refine hselect.pages.composed ?_
    rw [he, Option.any_some, hs]
    have hmine : w.entry? t = some (e.joined n watch) := by rw [hw, Device.joined_entry?, he]; rfl
    exact Device.setStop_composed hmine (show e.stop ≠ .pending by rw [hs]; nofun) (by rw [hboard]; exact hh)

/-! ## The pages and the buttons at a notice (R64, R108, R162) -/

theorem Device.deliver_pageStep {d : Device} (ht : d.table.OneEach) (n : EntryNotice) : d.PageStep (d.deliver n) := by
  obtain ⟨b, hb, he⟩ := Device.deliver_around ht n
  exact hb.pages.step.trans ((b.boardNotice_pages n).1.trans he.pages.step)

/-- A removal keeps the laws the lists rest on, by page steps. -/
theorem Device.ListsSound.removeTrain {d : Device} (h : d.ListsSound) (t : Nat) :
    (d.removeTrain t).ListsSound ∧ d.PageStep (d.removeTrain t) := by
  unfold Device.removeTrain
  split
  · exact ⟨h, .of_screens rfl (.of_ports rfl)⟩
  · next v _ =>
    have hsound : (d.deleteEntry t).ListsSound := ⟨h.oneEach.sublist (List.filter_sublist.map _), h.banks, h.length, h.once⟩
    have hdelete : d.PageStep (d.deleteEntry t) := .of_screens rfl (.of_ports rfl)
    exact ⟨hsound.deliver _, hdelete.trans (Device.deliver_pageStep hsound.oneEach _)⟩

/-- An entry is made by page steps (R55, R56, R64). -/
theorem Device.makeEntry_pageStep {d : Device} (h : d.ListsSound) {e : Entry} (hn : d.entry? e.train = none) :
    d.PageStep (d.makeEntry e).2 := by
  rcases d.makeEntry_cases e with ⟨w, hw, hmake⟩ | hmake <;> rw [hmake]
  · obtain ⟨hsound, hstep⟩ : w.ListsSound ∧ d.PageStep w := by
      rcases hw with ⟨-, rfl⟩ | ⟨-, v, -, rfl⟩
      · exact ⟨h, .of_screens rfl (.of_ports rfl)⟩
      · exact h.removeTrain _
    have hinsert : w.PageStep (w.insertEntry e) := .of_screens rfl (.of_ports rfl)
    exact (hstep.trans hinsert).trans (Device.deliver_pageStep (hsound.insertEntry (hw.entry?_none hn)).oneEach _)
  · exact .of_screens (by simp only [Device.setTableFull_frame]) (.trans (.of_ports rfl) (.setFlagIf _ _ _))

/-- A notice of an entry entered or removed leaves the states of the buttons (R95, R108). -/
theorem Device.deliver_buttonState (d : Device) {n : EntryNotice} (hn : n.cause = .entered ∨ n.cause = .removed) (dir : Direction) :
    ((d.deliver n).button dir).state = (d.button dir).state := by
  have hsame : ∀ x y : Device, y.sru = x.sru → (y.button dir).state = (x.button dir).state := fun x y h => by
    cases dir <;> simp only [Device.button, h]
  have hlamp : ∀ x : Device, ((x.refreshLamps n.train).button dir).state = (x.button dir).state := fun x => by
    rw [Device.refreshLamps_button]
    unfold Device.lampAfresh
    split
    · exact (Button.withMode_keeps _ _).2.1
    · rfl
  have hforget : ∀ b : Button, (b.forget n.train).state = b.state := fun b => by
    unfold Button.forget
    split <;> rfl
  unfold Device.deliver
  refine Device.forAll_induction (P := fun x => (x.button dir).state = (d.button dir).state) rfl (fun x k h => (hsame x _ rfl).trans h)
    fun f hf x hx => ?_
  rw [← hx]
  simp only [List.mem_cons, List.not_mem_nil, or_false] at hf
  rcases hf with rfl | rfl | rfl | rfl | rfl
  · exact hsame _ _ (by simp only [Device.forecastNotice_frame])
  · unfold Device.stopUnitNotice
    rcases hn with hn | hn <;> rw [hn] <;> dsimp only <;> rw [hlamp]
    unfold Device.stopRemoved
    rw [hsame _ _ (Device.withdrawFrame_frame _ _).2.2.2.2.1]
    cases dir <;> exact hforget _
  · exact hsame _ _ (by simp only [Device.boardNotice_frame])
  · exact hsame _ _ (by simp only [Device.cueNotice_frame])
  · exact hsame _ _ (by simp only [Device.lastCallTest_frame])

theorem Device.makeEntry_buttonState (d : Device) (e : Entry) (dir : Direction) :
    ((d.makeEntry e).2.button dir).state = (d.button dir).state := by
  rcases d.makeEntry_cases e with ⟨w, hw, hmake⟩ | hmake <;> rw [hmake]
  · rw [Device.deliver_buttonState _ (.inl rfl)]
    rcases hw with ⟨-, rfl⟩ | ⟨-, v, -, rfl⟩
    · cases dir <;> rfl
    · have hremoved : ((d.removeTrain v.train).button dir).state = (d.button dir).state := by
        unfold Device.removeTrain
        split
        · rfl
        · rw [Device.deliver_buttonState _ (.inr rfl)]
          cases dir <;> rfl
      rw [← hremoved]
      cases dir <;> rfl
  · cases dir <;> simp only [Device.button, Device.setTableFull_frame]

/-! ## The part that a press or a sale works on (R55 to R57) -/

/-- `u` is the part `d` once the train `n` has the entry `e`: `d` itself where it has, or after the train has been entered. -/
structure Device.Serves (d : Device) (n : Nat) (e : Entry) (u : Device) : Prop where
  meets : d.Meets n e
  reaches : d.Reaches n e u
  buttons : ∀ dir, (u.button dir).state = (d.button dir).state
  board : d.BoardSound → d.EntersAs n e u ∧ d.PageStep u

theorem Device.Serves.of_entry {d : Device} {n : Nat} {e : Entry} (he : d.entry? n = some e) : d.Serves n e d :=
  ⟨.inl he, .of_entry he, fun _ => rfl, fun _ => ⟨.inl ⟨he, rfl⟩, .of_screens rfl (.of_ports rfl)⟩⟩

/-- An ask for a train of the timetable without an entry, with room or an entry that makes way (R55, R56, R57, R158). -/
theorem Device.askEnter_serves {d : Device} {n : Nat} {c : HeldCall} (hl : d.tt.lookup d.clock.date n = some c)
    (hn : d.entry? n = none) (hroom : d.table.entries.length < 24 ∨ ∃ v, d.MakesWay n v) :
    ∃ u, d.askEnter n = (.entered, u) ∧ d.Serves n (.fresh n d.clock.date (some c)) u := by
  have hm : d.Meets n (.fresh n d.clock.date (some c)) := .inr ⟨hn, hroom, .inl ⟨c, hl, rfl⟩⟩
  have hask : d.askEnter n = d.enterTrain n true ∧ d.enterTrain n true = d.makeEntry (.fresh n d.clock.date (some c)) := by
    unfold Device.askEnter Device.enterTrain Device.today
    rw [hn, hl]
    exact ⟨rfl, rfl⟩
  obtain ⟨u, hu, hreach⟩ := Device.enterTrain_reaches hm hn
  have hmade : u = (d.makeEntry (.fresh n d.clock.date (some c))).2 := (congrArg Prod.snd (hask.2.symm.trans hu)).symm
  refine ⟨u, hask.1.trans hu, hm, hreach, fun dir => ?_, fun hboard => ?_⟩
  · rw [hmade]
    exact Device.makeEntry_buttonState d _ dir
  · obtain ⟨u', hu', henters, -⟩ := Device.enterTrain_entersAs hboard.listsSound hm hn
    obtain rfl : u' = u := congrArg Prod.snd (hu'.symm.trans hu)
    refine ⟨henters, ?_⟩
    rw [hmade]
    exact Device.makeEntry_pageStep hboard.listsSound hn

/-- The buttons and the ports are no matter to the entering of a train. -/
theorem Device.EntersAs.of_parts {d u : Device} {sru : StopUnit} {ports : Ports} {n : Nat} {e : Entry}
    (h : ({ d with sru := sru, ports := ports } : Device).EntersAs n e u) : ∃ u', d.EntersAs n e u' ∧ u'.board = u.board := by
  rcases h with ⟨hn, rfl⟩ | ⟨hn, hx, w, hw, hothers, hu, hnoticed⟩
  · exact ⟨d, .inl ⟨hn, rfl⟩, rfl⟩
  · rcases hw with ⟨hlt, rfl⟩ | ⟨v, hv, hr⟩
    · exact ⟨u, .inr ⟨hn, hx, d, .inl ⟨hlt, rfl⟩, hothers, hu, hnoticed.of_board rfl Iff.rfl⟩, rfl⟩
    · exact ⟨u, .inr ⟨hn, hx, w, .inr ⟨v, hv, hr.frame, hr.finished, hr.lists, fun hh => (hr.pages hh).of_board rfl, hr.still⟩,
        hothers, hu, hnoticed⟩, rfl⟩

/-- Passengers added to the request of the train served, where since then the pages alone have changed: its entry takes them, the
others stay, and the pages follow where NONE becomes PENDING in a train that a list holds (R93, R94, R97, R162). -/
theorem Device.Serves.requested {d u v : Device} {n : Nat} {e : Entry} (h : d.Serves n e u) (htable : v.table = u.table)
    (hlists : v.board = { u.board with screens := v.board.screens }) (hstep : u.PageStep v) (m : Nat) (watch : Bool) :
    ∃ x, u.entry? n = some x ∧ x.core = e.core ∧ (v.addToRequest n m watch).entry? n = some (x.requested m watch) ∧
      d.OthersStay (v.addToRequest n m watch) n ∧
      (v.addToRequest n m watch).board = { u.board with screens := (v.addToRequest n m watch).board.screens } ∧
      (d.BoardSound → e.stop = .none → u.board.Holds n →
        d.PageStep (v.addToRequest n m watch) ∧ (v.addToRequest n m watch).Composed) := by
  obtain ⟨x, hx, hcore, -⟩ := h.reaches.entry
  obtain ⟨hothers, hway⟩ := h.reaches.others
  have hfind : ∀ k, v.entry? k = u.entry? k := fun k => by unfold Device.entry?; rw [htable]
  have hwrites := (v.addToRequest_takes n m watch).writes
  obtain ⟨hboard, hpages, hcomposed⟩ := v.addToRequest_pages n m watch
  refine ⟨x, hx, hcore, by rw [hwrites.mine, hfind, hx]; rfl, ⟨fun k hk hv => ?_, fun w hw => ?_⟩, ?_, fun hsound hs hh => ⟨?_, ?_⟩⟩
  · rw [hwrites.others k hk, hfind, hothers k hk hv]
  · rw [hwrites.others _ hw.train_ne, hfind, hway w hw]
  · rw [hlists] at hboard
    exact hboard
  · exact ((h.board hsound).2.trans hstep).trans hpages
  · refine hcomposed x (by rw [hfind, hx]) ((Entry.field_of_core hcore Entry.stop fun _ => rfl).trans hs) ?_
    rw [hlists]
    exact hh

end Sys2Proof.Machine

/-! # Buttons and lamps -/

namespace Sys2Proof.Machine

/-! ## The rows of the buttons (R95, R96, R98) -/

theorem exec_button {s : State} (hrun : s.dev.phase = .running) (dir : Direction) :
    exec (.buttonPress dir) s = .next (s.becomes (s.dev.press dir)) ∧
      exec (.buttonRelease dir) s = .next (s.becomes (s.dev.release dir)) ∧
      exec (.lampFlash dir) s = .next (s.becomes (s.dev.lampFlash dir)) := by
  have hrunning : s.dev.running = true := by unfold Device.running; rw [hrun]; rfl
  have hwhen : ∀ f : Device → Device, Host.Outcome.next (s.becomes (s.dev.when s.dev.running f)) =
      (.next (s.becomes (f s.dev)) : Host.Outcome State Fault Refusal) := fun f =>
    congrArg (fun d => Host.Outcome.next (s.becomes d)) (if_pos hrunning)
  exact ⟨hwhen _, hwhen _, hwhen _⟩

/-! ## The choice of a press (R96) -/

theorem Entry.pressable_iff {dir : Direction} {e : Entry} :
    e.pressable dir = true ↔ (e.state = .expected ∨ e.state = .running ∨ e.state = .approaching) ∧
      ∃ h, e.held = some h ∧ h.call.kind = .request ∧ h.call.direction = dir ∧ belowCutoff e.lastIndex h.call = true := by
  unfold Entry.pressable
  simp only [Bool.and_eq_true, Bool.or_eq_true, beq_iff_eq, Option.any_eq_true, and_assoc, or_assoc]

/-- The time to go of an entry of a call (R96). -/
theorem Device.timeToGo_held (d : Device) {e : Entry} {h : HeldCall} (hh : e.held = some h) :
    d.timeToGo e = (((e.forecast.map Forecast.departure).getD h.call.schedDep : Nat) : Int) - d.clockOn e := by
  unfold Device.timeToGo
  cases e.forecast with
  | none => rw [hh]; rfl
  | some f => rfl

theorem Device.pressMayChoose_of_mem {d : Device} {dir : Direction} {c : PressChoice} (h : c ∈ d.pressCandidates dir) :
    d.PressMayChoose dir c.train c.toGo := by
  rcases List.mem_append.1 h with h | h
  · obtain ⟨hmap, hnear⟩ := List.mem_filter.1 h
    obtain ⟨e, he, rfl⟩ := List.mem_map.1 hmap
    obtain ⟨hmem, hpress⟩ := List.mem_filter.1 he
    obtain ⟨hstate, x, hx, hkind, hdir, hbelow⟩ := Entry.pressable_iff.1 hpress
    exact ⟨of_decide_eq_true hnear, .inl ⟨e, hmem, x, rfl, hx, hkind, hdir, hstate, hbelow, d.timeToGo_held hx⟩⟩
  · obtain ⟨hmap, hnear⟩ := List.mem_filter.1 h
    obtain ⟨x, hx, rfl⟩ := List.mem_map.1 hmap
    obtain ⟨hmem, hcond⟩ := List.mem_filter.1 hx
    simp only [Bool.and_eq_true, decide_eq_true_iff] at hnear
    simp only [Bool.and_eq_true, beq_iff_eq, Option.isNone_iff_eq_none, Bool.not_eq_true', List.contains_eq_mem,
      decide_eq_false_iff_not] at hcond
    obtain ⟨⟨⟨hkind, hdir⟩, hnone⟩, hfinished⟩ := hcond
    exact ⟨hnear.1, .inr ⟨hnear.2, hnone, hfinished, x, hmem, rfl, hkind, hdir, rfl⟩⟩

theorem Device.mem_of_pressMayChoose {d : Device} (hd : d.table.OneEach) {dir : Direction} {n : Nat} {g : Int}
    (h : d.PressMayChoose dir n g) : { train := n, toGo := g, entered := (d.entry? n).isSome : PressChoice } ∈ d.pressCandidates dir := by
  obtain ⟨hnear, ⟨e, hmem, x, rfl, hx, hkind, hdir, hstate, hbelow, rfl⟩ | ⟨hlate, hnone, hfinished, x, hmem, rfl, hkind, hdir, rfl⟩⟩ := h
  · refine List.mem_append_left _ (List.mem_filter.2 ⟨List.mem_map.2 ⟨e, List.mem_filter.2 ⟨hmem, ?_⟩, ?_⟩, decide_eq_true hnear⟩)
    · exact Entry.pressable_iff.2 ⟨hstate, x, hx, hkind, hdir, hbelow⟩
    · rw [hd.entry?_eq_some.2 ⟨hmem, rfl⟩, d.timeToGo_held hx]
      rfl
  · refine List.mem_append_right _ (List.mem_filter.2 ⟨List.mem_map.2 ⟨x, List.mem_filter.2 ⟨hmem, ?_⟩, ?_⟩, ?_⟩)
    · simp [hkind, hdir, hnone, hfinished]
    · rw [hnone]
      rfl
    · rw [Bool.and_eq_true, decide_eq_true_iff, decide_eq_true_iff]
      exact ⟨hnear, hlate⟩

theorem Device.pressChoice_none {d : Device} {dir : Direction} (h : ∀ n g, ¬ d.PressMayChoose dir n g) : d.pressChoice dir = none := by
  cases hc : d.pressChoice dir with
  | none => rfl
  | some c => exact absurd (Device.pressMayChoose_of_mem (Device.pressChoice_mem hc)) (h _ _)

theorem PressChoice.before_iff {a b : PressChoice} : a.before b = true ↔ a.toGo < b.toGo ∨ a.toGo = b.toGo ∧ a.train < b.train := by
  simp [PressChoice.before]

/-- A press chooses the call of least time to go, of two of the same the one of the lower train number (R96). -/
theorem Device.pressChoice_first {d : Device} (hd : d.table.OneEach) {dir : Direction} {n : Nat} {g : Int}
    (h : d.PressMayChoose dir n g) (hmin : ∀ m x, d.PressMayChoose dir m x → g < x ∨ (g = x ∧ n ≤ m)) :
    d.pressChoice dir = some { train := n, toGo := g, entered := (d.entry? n).isSome } := by
  have hmem := Device.mem_of_pressMayChoose hd h
  have hordered := sortBy_ordered (b := PressChoice.before)
    (fun x y z hxy hyz => by rw [PressChoice.before_iff] at *; omega)
    (fun x y hxy => by rw [Bool.eq_false_iff, Ne, PressChoice.before_iff]; rw [PressChoice.before_iff] at hxy; omega)
    (d.pressCandidates dir)
  cases hs : sortBy PressChoice.before (d.pressCandidates dir) with
  | nil => exact absurd ((sortBy_perm _ _).mem_iff.2 hmem) (by rw [hs]; exact List.not_mem_nil)
  | cons c rest =>
    have hc : d.pressChoice dir = some c := by unfold Device.pressChoice; rw [hs]; rfl
    rw [hc]
    have hcmem := Device.pressChoice_mem hc
    have hle := hmin _ _ (Device.pressMayChoose_of_mem hcmem)
    have hin := (sortBy_perm PressChoice.before _).mem_iff.2 hmem
    rw [hs] at hin hordered
    rcases List.mem_cons.1 hin with hsame | hin
    · rw [hsame]
    · have hfirst := (List.pairwise_cons.1 hordered).1 _ hin
      rw [Bool.eq_false_iff, Ne, PressChoice.before_iff] at hfirst
      obtain ⟨hg, hn⟩ : c.toGo = g ∧ c.train = n := by dsimp only at hfirst; omega
      obtain ⟨train, toGo, entered⟩ := c
      dsimp only at hg hn
      subst hg hn
      rcases Device.pressCandidates_cases hd hcmem with ⟨hentered, e, he, -⟩ | ⟨hentered, hnone⟩
      · rw [he]; exact congrArg some (congrArg (PressChoice.mk train toGo) hentered)
      · rw [hnone]; exact congrArg some (congrArg (PressChoice.mk train toGo) hentered)

/-! ## A press taken (R97) -/

theorem Device.setStop_buttonState (d : Device) (t : Nat) (s : StopState) (dir : Direction) :
    ((d.setStop t s).button dir).state = (d.button dir).state := by
  cases he : d.entry? t with
  | none => unfold Device.setStop; rw [he]
  | some e =>
    by_cases hs : e.stop = s
    · unfold Device.setStop
      rw [he]
      dsimp only
      rw [if_pos hs]
    · rw [Device.setStop_button he hs]
      split
      · exact (Button.withMode_keeps _ _).2.1
      · rfl

theorem Device.addToRequest_buttonState (d : Device) (t n : Nat) (watch : Bool) (dir : Direction) :
    ((d.addToRequest t n watch).button dir).state = (d.button dir).state := by
  have hset : ∀ c, (((d.updateEntry t (Entry.joined n watch)).when c (Device.setStop t .pending)).button dir).state =
      (d.button dir).state := fun c => by
    have hjoin : (d.updateEntry t (Entry.joined n watch)).button dir = d.button dir := by cases dir <;> rfl
    rw [← hjoin]
    unfold Device.when
    split
    · exact Device.setStop_buttonState _ _ _ _
    · rfl
  rw [Device.addToRequest_eq, ← hset ((d.entry? t).any fun e => e.stop == .none)]
  cases dir <;> simp only [Device.button, Device.selectIfEligible_frame]

/-- The button after a press on the train chosen: it keeps its state and takes the train, and its lamp shows the request (R97, R98). -/
theorem Device.pressOn_button {d : Device} {dir : Direction} {n : Nat} {y : Entry} (hy : (d.addToRequest n 1 false).entry? n = some y)
    (hstate : y.state = .expected ∨ y.state = .running ∨ y.state = .approaching) :
    ((d.pressOn dir n).button dir).state = (d.button dir).state ∧ ((d.pressOn dir n).button dir).chosen = some n ∧
      ((d.pressOn dir n).button dir).lamp = if y.stop = .confirmed then .steady
        else if y.stop = .pending ∨ y.stop = .sent then .flashing else .off := by
  obtain ⟨w, hw⟩ : ∃ w, w = d.addToRequest n 1 false := ⟨_, rfl⟩
  have hbutton : (d.pressOn dir n).button dir =
      ({ w.button dir with chosen := some n } : Button).withMode (w.lampModeFor (some n)) := by
    rw [hw]
    cases dir <;> rfl
  obtain ⟨hlamp, hkept, hchosen⟩ := ({ w.button dir with chosen := some n } : Button).withMode_keeps (w.lampModeFor (some n))
  rw [← hbutton] at hlamp hkept hchosen
  refine ⟨hkept.trans ?_, hchosen, hlamp.trans ?_⟩
  · rw [hw]
    exact Device.addToRequest_buttonState d n 1 false dir
  · have hmode : w.lampModeFor (some n) = y.lampMode := by
      unfold Device.lampModeFor
      rw [hw, Option.bind_some, hy]
      rfl
    rw [hmode]
    unfold Entry.lampMode
    rcases hstate with h | h | h <;> rw [h] <;> cases y.stop <;> rfl

/-- What a press on the train served leaves of the part, the button aside (R93, R97, R158, R162). -/
theorem Device.Serves.pressOn {d u : Device} {n : Nat} {e : Entry} (h : d.Serves n e u) (dir : Direction) :
    ∃ x, u.entry? n = some x ∧ x.core = e.core ∧ (u.pressOn dir n).entry? n = some (x.requested 1 false) ∧
      d.OthersStay (u.pressOn dir n) n ∧
      u.pressOn dir n = { d with
        line := (u.pressOn dir n).line, table := { d.table with entries := (u.pressOn dir n).table.entries }
        sru := (u.pressOn dir n).sru, board := (u.pressOn dir n).board, cues := (u.pressOn dir n).cues
        co := (u.pressOn dir n).co, ports := (u.pressOn dir n).ports, sched := (u.pressOn dir n).sched } ∧
      (u.pressOn dir n).ports.quiet = d.ports.quiet ∧
      (u.pressOn dir n).board = { u.board with screens := (u.pressOn dir n).board.screens } ∧
      (d.BoardSound → e.stop = .none → u.board.Holds n → PagesFollow d (u.pressOn dir n)) := by
  obtain ⟨x, hx, hcore, hentry, hothers, hboard, hpages⟩ :=
    h.requested rfl rfl (.of_screens rfl (.of_ports rfl)) 1 false
  have hframe := h.reaches.frame
  have hfull := (u.addToRequest_takes n 1 false).writes.full
  have hkept : (u.addToRequest n 1 false).PagesKept (u.pressOn dir n) := .of_quiet rfl rfl rfl rfl rfl rfl (.of_ports rfl)
  obtain ⟨hphase, hclock, htt, hfares, hsale, hjournal, hnotices, -, -, hhalt, -, -, -, -, hports⟩ := u.pressOn_frame dir n
  refine ⟨x, hx, hcore, hentry, hothers, Device.eq_of_frame (hphase.trans (by rw [hframe])) (hclock.trans (by rw [hframe]))
    (htt.trans (by rw [hframe])) (hfull.trans (by rw [hframe])) (hfares.trans (by rw [hframe])) (hsale.trans (by rw [hframe]))
    (hjournal.trans (by rw [hframe])) (hnotices.trans (by rw [hframe])) (hhalt.trans (by rw [hframe])), hports.trans h.reaches.quiet,
    hboard, fun hsound hs hh => ?_⟩
  · obtain ⟨hstep, hcomposed⟩ := hpages hsound hs hh
    exact (hstep.trans hkept.step).follow (hkept.composed hcomposed)

/-- The train that a press may choose: it has an entry that has not been at the halt, or it is in the timetable (R96). -/
theorem Device.PressMayChoose.train_found {d : Device} (hd : d.table.OneEach) {dir : Direction} {n : Nat} {g : Int}
    (h : d.PressMayChoose dir n g) :
    (∃ e, d.entry? n = some e ∧ (e.state = .expected ∨ e.state = .running ∨ e.state = .approaching)) ∨
      (d.entry? n = none ∧ ∃ c, d.tt.lookup d.clock.date n = some c) := by
  obtain ⟨-, ⟨e, hmem, -, rfl, -, -, -, hstate, -⟩ | ⟨-, hnone, -, x, hmem, rfl, -⟩⟩ := h
  · exact .inl ⟨e, hd.entry?_eq_some.2 ⟨hmem, rfl⟩, hstate⟩
  · refine .inr ⟨hnone, Option.isSome_iff_exists.1 (List.find?_isSome.2 ⟨x, hmem, beq_self_eq_true _⟩)⟩

/-- A press that chooses a train with an entry, and one that chooses a train without (R97). -/
theorem Device.takePress_of_choice {d : Device} {dir : Direction} {n : Nat} {g : Int}
    (hc : d.pressChoice dir = some { train := n, toGo := g, entered := (d.entry? n).isSome }) :
    (∀ e, d.entry? n = some e → d.takePress dir = d.pressOn dir n) ∧
      (d.entry? n = none → ∀ u, (d.askEnter n = (.entered, u) → d.takePress dir = u.pressOn dir n) ∧
        (d.askEnter n = (.tableFull, u) → d.takePress dir = u)) := by
  unfold Device.takePress
  rw [hc]
  dsimp only
  refine ⟨fun e he => ?_, fun hn u => ⟨fun hu => ?_, fun hu => ?_⟩⟩
  · rw [he]
    rfl
  · rw [hn, hu]
    rfl
  · rw [hn, hu]
    rfl

/-- An ask on a full table that no entry leaves (R56, R57). -/
theorem Device.askEnter_full {d : Device} {n : Nat} {c : HeldCall} (hl : d.tt.lookup d.clock.date n = some c) (hn : d.entry? n = none)
    (hfull : d.table.entries.length = 24) (hstay : ∀ e ∈ d.table.entries, ¬ e.Replaceable) : d.askEnter n = (.tableFull, d.filled) := by
  have hvictim : d.table.victim = none := by
    unfold RunningTable.victim
    rw [List.filter_eq_nil_iff.2 fun e he hr => hstay e he (Entry.replaceable_iff.1 hr)]
    rfl
  unfold Device.askEnter Device.enterTrain Device.today
  rw [hn, hl]
  dsimp only
  unfold Device.makeEntry
  rw [if_neg (by omega), hvictim]
  rfl

/-- Settles O44: the choice of a press is the first of its candidates, and a train without an entry is entered first. -/
theorem buttonsPressReleaseAndFlash : Obligations.ButtonsPressReleaseAndFlash := by
  unfold Obligations.ButtonsPressReleaseAndFlash
  rintro s dir b hrun rfl
  obtain ⟨hpress, hrelease, hflash⟩ := exec_button hrun dir
  refine ⟨hrelease, fun hlamp => ?_, fun hlamp => ?_, fun hstate => ?_, fun hstate => ?_⟩
  · rw [hflash]
    exact congrArg (fun d => Host.Outcome.next (s.becomes d)) (if_pos hlamp)
  · rw [hflash]
    exact congrArg (fun d => Host.Outcome.next (s.becomes d)) (if_neg hlamp)
  · rw [hpress]
    exact congrArg (fun d => Host.Outcome.next (s.becomes d)) (if_neg (by rw [hstate]; nofun))
  obtain ⟨d, hd⟩ : ∃ d, d = s.dev.setButton dir { s.dev.button dir with state := .pressed } := ⟨_, rfl⟩
  have htake : exec (.buttonPress dir) s = .next (s.becomes (d.takePress dir)) := by
    rw [hpress, hd]
    exact congrArg (fun d => Host.Outcome.next (s.becomes d)) (if_pos hstate)
  have hchoose : ∀ m x, d.PressMayChoose dir m x ↔ s.dev.PressMayChoose dir m x := fun m x => by rw [hd]; rfl
  rw [htake, ← hd]
  refine ⟨fun hnone => ?_, fun n g htable hfirst hmin => ?_⟩
  · have hno := Device.pressChoice_none (d := d) (dir := dir) fun m x => by rw [hchoose]; exact hnone m x
    unfold Device.takePress
    rw [hno]
  have hone : d.table.OneEach := by rw [hd]; exact htable.oneEach
  have hmay := (hchoose n g).2 hfirst
  obtain ⟨hheld, hasked⟩ := Device.takePress_of_choice (Device.pressChoice_first hone hmay fun m x hm => hmin m x ((hchoose m x).1 hm))
  have hfound := hmay.train_found hone
  refine ⟨fun hn hfull hstay => ?_, fun hroom => ?_⟩
  · have hn : d.entry? n = none := by rw [hd]; exact hn
    obtain ⟨c, hl⟩ := (hfound.resolve_left (by simp [hn])).2
    have hnone : ∀ e ∈ d.table.entries, ¬ e.Replaceable := by
      rw [hd]
      exact fun e he hr => (hstay e he).elim fun h1 h2 => hr.elim h1 fun hr => hr.elim h2.1 h2.2
    rw [(hasked hn d.filled).2 (Device.askEnter_full hl hn (by rw [hd]; exact hfull) hnone)]
  obtain ⟨e, u, hserves, htaken, hstates, hfresh⟩ : ∃ e u, d.Serves n e u ∧ d.takePress dir = u.pressOn dir n ∧
      (e.state = .expected ∨ e.state = .running ∨ e.state = .approaching) ∧
      (d.entry? n = none → ∃ c, d.tt.lookup d.clock.date n = some c ∧ e = .fresh n d.clock.date (some c)) := by
    rcases hfound with ⟨e, he, hstates⟩ | ⟨hn, c, hl⟩
    · exact ⟨e, d, .of_entry he, hheld e he, hstates, fun hn => absurd (hn.symm.trans he) nofun⟩
    · have hway : d.table.entries.length < 24 ∨ ∃ v, d.MakesWay n v := by
        rw [hd] at hn ⊢
        exact hroom hn
      obtain ⟨u, hu, hserves⟩ := Device.askEnter_serves hl hn hway
      exact ⟨_, u, hserves, (hasked hn u).1 hu, .inl rfl, fun _ => ⟨c, hl, rfl⟩⟩
  obtain ⟨x, hx, hcore, hentry, hothers, hframe, hquiet, hboard, hpages⟩ := hserves.pressOn dir
  obtain ⟨hpressed, hchosen, hlamp⟩ := Device.pressOn_button (d := u) (dir := dir) (n := n) (y := x.requested 1 false) hentry
    (by rw [show (x.requested 1 false).state = e.state from Entry.field_of_core hcore Entry.state fun _ => rfl]; exact hstates)
  rw [htaken]
  obtain ⟨t, ht⟩ : ∃ t, t = u.pressOn dir n := ⟨_, rfl⟩
  rw [← ht] at hentry hothers hframe hquiet hboard hpages hpressed hchosen hlamp ⊢
  have hstate' : (d.button dir).state = .pressed := by rw [hd]; cases dir <;> rfl
  refine ⟨_, x.requested 1 false, rfl, ⟨rfl, hquiet.trans (by rw [hd]; rfl)⟩, hentry, ?_, hframe.trans (by rw [hd]; rfl),
    (hpressed.trans (hserves.buttons dir)).trans hstate', hchosen, hlamp, fun y hy => ?_, fun hn => ?_, fun hsound => ?_⟩
  · rw [hd] at hothers
    exact hothers
  · have hy : d.entry? n = some y := by rw [hd]; exact hy
    have hud := hserves.reaches.stays y hy
    rw [hud] at hx
    obtain rfl := Option.some_inj.1 (hy.symm.trans hx)
    exact congrArg (fun w => ({ y with waiting := _, saleWatch := w, stop := _ } : Entry)) (Bool.or_false _)
  · obtain ⟨c, hl, hc⟩ := hfresh (by rw [hd]; exact hn)
    rw [hd] at hl hc
    exact ⟨c, hl, by rw [Entry.requested_core, hcore, hc]; rfl⟩
  · have hsound' : d.BoardSound := by rw [hd]; exact hsound
    have henters := (hserves.board hsound').1
    rw [hd] at henters
    obtain ⟨u', henters', hu'⟩ := Device.EntersAs.of_parts (d := s.dev) (ports := s.dev.ports) henters
    have hmeets := hserves.meets
    rw [hd] at hmeets
    refine ⟨e, u', hmeets, henters', by rw [hu']; exact hboard, fun hs hh => ?_⟩
    rw [hu'] at hh
    exact (hpages hsound' hs hh).of_board (by rw [hd]; rfl)

end Sys2Proof.Machine

/-! # ISSUE -/

namespace Sys2Proof.Machine

/-! ## The checks of an ISSUE (R127, R128) -/

/-- The open quote of a number, and the slots after it is closed (R127, log 26). -/
theorem SaleUnit.openQuote?_eq {u : SaleUnit} {q : Quote} {k : Nat} (hk : q.number = k)
    (h : u.slotA = some q ∨ u.slotB = some q ∧ ¬ slotNumbered k u.slotA) :
    ∃ slot, u.openQuote? k = some (slot, q) ∧ u.setSlot slot none = { u with
      slotA := if u.slotA = some q then none else u.slotA, slotB := if u.slotA = some q then u.slotB else none } := by
  have hself : (some q).filter (fun q => q.number == k) = some q := if_pos (beq_iff_eq.2 hk)
  unfold SaleUnit.openQuote?
  rcases h with ha | ⟨hb, ha⟩
  · refine ⟨.a, by rw [ha, hself], ?_⟩
    rw [if_pos ha, if_pos ha]
    rfl
  · have hfilter : u.slotA.filter (fun q => q.number == k) = none := by
      rw [Option.filter_eq_none_iff]
      exact fun x hx hnum => ha ⟨x, hx, beq_iff_eq.1 hnum⟩
    have hne : u.slotA ≠ some q := fun hs => ha ⟨q, hs, hk⟩
    refine ⟨.b, by rw [hfilter, hb, hself], ?_⟩
    rw [if_neg hne, if_neg hne]
    rfl

theorem Device.issueChecks_none {d : Device} {q : Quote} (hg : q.generation = d.fares.generation)
    (hs : d.sale.state = .isOpen ∨ d.sale.state = .restricted ∧ q.type = .single)
    (hj : d.journal.records.length + 2 ≤ 8 * d.journal.partition) : d.issueChecks q q.price = none := by
  have hfree : ¬ d.journal.free < 2 := by unfold Journal.free; omega
  have hstate : ¬ (d.sale.state = .closed ∨ d.sale.state = .suspended) ∧ ¬ (d.sale.state = .restricted ∧ q.type ≠ .single) := by
    rcases hs with h | ⟨h, ht⟩ <;> rw [h] <;> simp [*]
  unfold Device.issueChecks
  rw [if_neg (not_not_intro hg), if_neg (not_not_intro rfl), if_neg hstate.1, if_neg hstate.2, if_neg hfree]

/-- What a departure passes of the checks of an ISSUE (R128). -/
theorem Device.issueDeparture_passes {d : Device} {n : Nat} {e : Option Entry} {c : CallRec} (hd : d.departure n = .found e c)
    (hk : c.kind ≠ .pass) (hreq : c.kind = .request → (∀ y, e = some y → belowCutoff y.lastIndex c = true ∨ y.stop = .confirmed) ∧
      (d.line.state = .up ∨ ∃ y, e = some y ∧ y.stop = .confirmed)) : d.issueDeparture n = .ok (e, c) := by
  have hlate : ¬ tooLate e c = true := by
    unfold tooLate cutoffPassed
    rw [Option.any_eq_true]
    rintro ⟨y, hy, hlate⟩
    rw [Bool.and_eq_true, bne_iff_ne] at hlate
    obtain ⟨hcut, hconfirmed⟩ := hlate
    split at hcut
    · next hkind => simp [((hreq hkind).1 y hy).resolve_right hconfirmed] at hcut
    · cases hcut
  have hdown : ¬ (c.kind = .request ∧ d.line.state = .down ∧ (!stopConfirmed e) = true) := by
    rintro ⟨hkind, hdown, hconfirmed⟩
    rcases (hreq hkind).2 with hup | ⟨y, rfl, hy⟩
    · rw [hup] at hdown; cases hdown
    · simp [stopConfirmed, hy] at hconfirmed
  unfold Device.issueDeparture
  rw [hd]
  dsimp only
  rw [if_neg hk, if_neg hlate, if_neg hdown]

/-- A departure found without an entry is of a call of the day (R119). -/
theorem Device.departure_new {d : Device} {n : Nat} {c : CallRec} (h : d.departure n = .found none c) :
    ∃ x, d.tt.lookup d.clock.date n = some x ∧ x.call = c := by
  have hn := (Device.TableSound.departure_found h).1
  unfold Device.departure Device.today at h
  rw [hn] at h
  dsimp only at h
  split at h
  · cases h
  · split at h
    · cases h
    · next x hx =>
      split at h
      · exact ⟨x, hx, by cases h; rfl⟩
      · cases h

/-- The call that an ISSUE for a train is made for; the train of a REQUEST call is entered where it has no entry (R57, R128). -/
theorem Device.issueCall_train {d : Device} {q : Quote} {n : Nat} {e : Option Entry} {c : CallRec} (hq : q.train = some n)
    (hfound : d.departure n = .found e c) (hpasses : d.issueDeparture n = .ok (e, c))
    (hroom : c.kind = .request → e = none → d.table.entries.length < 24 ∨ ∃ v, d.MakesWay n v) :
    ∃ u, d.issueCall q = (.ok (some c), u) ∧ (c.kind ≠ .request → u = d) ∧ (c.kind = .request → ∃ x, d.Serves n x u ∧
      x.waiting = ((d.entry? n).map Entry.waiting).getD 0 ∧ x.stop = ((d.entry? n).map Entry.stop).getD .none) := by
  have hentry := (Device.TableSound.departure_found hfound).1
  unfold Device.issueCall
  rw [hq]
  dsimp only
  rw [hpasses]
  dsimp only
  by_cases hkind : c.kind = .request
  · cases e with
    | some y =>
      refine ⟨d, if_neg fun h => absurd h.2 (by simp), fun h => absurd hkind h, fun _ => ⟨y, .of_entry hentry, ?_⟩⟩
      rw [hentry]
      exact ⟨rfl, rfl⟩
    | none =>
      obtain ⟨x, hx, -⟩ := Device.departure_new hfound
      obtain ⟨u, hu, hserves⟩ := Device.askEnter_serves hx hentry (hroom hkind rfl)
      refine ⟨u, ?_, fun h => absurd hkind h, fun _ => ⟨_, hserves, ?_⟩⟩
      · rw [if_pos ⟨hkind, rfl⟩, hu]
      · rw [hentry]
        exact ⟨rfl, rfl⟩
  · exact ⟨d, if_neg fun h => hkind h.1, fun _ => rfl, fun h => absurd h hkind⟩

/-! ## The record appended (R134, R144) -/

theorem Device.evalSales_sale (d : Device) : d.evalSales.sale = { d.sale with state := d.evalSales.sale.state } := by
  rcases Device.evalSales_cases d with he | ⟨m, rfl, he | ⟨-, he⟩⟩ <;> rw [he] <;> simp

/-- What appending a record leaves of the board: the pages alone may change (R162, R168). -/
theorem Device.appendRecord_pages (d : Device) (serial : Nat) (b : RecordBody) :
    (d.appendRecord serial b).board = { d.board with screens := (d.appendRecord serial b).board.screens } ∧
      d.PageStep (d.appendRecord serial b) := by
  obtain ⟨w, hw⟩ : ∃ w, w = d.setJournal (d.journal.append serial d.today d.now b) := ⟨_, rfl⟩
  have hboard : w.evalSales.board = { w.board with screens := w.evalSales.board.screens } := by
    rcases Device.evalSales_cases w with he | ⟨m, rfl, he | ⟨-, he⟩⟩ <;> rw [he] <;> simp [Device.recompose]
  have happend : d.appendRecord serial b = w.evalSales.markJournal := by rw [hw]; rfl
  have hstep : d.PageStep w := by rw [hw]; exact .of_screens rfl (.of_ports rfl)
  rw [happend]
  refine ⟨?_, (hstep.trans (Device.evalSales_pages w).1.step).trans (.of_screens ?_ (.setFlagIf _ _ _))⟩
  · simp only [Device.markJournal_frame]
    rw [hboard, hw]
    rfl
  · simp only [Device.markJournal_frame]

/-! ## The ticket (R129 to R132) -/

/-- What an ISSUE that passes writes of the Sale Unit, the notices and the pages (R129, R132, R134, R168). -/
theorem Device.issueTicket_sale (d : Device) (k : QuoteSlot) (q : Quote) (c : Option CallRec) (pay : PayKind) (serial : Nat) :
    (d.issueTicket k q c pay serial).sale = { d.sale.setSlot k none with
        state := (d.issueTicket k q c pay serial).sale.state, lastSale := some (d.lastSaleOf q c pay serial) } ∧
      (d.issueTicket k q c pay serial).notices = { d.notices with sn1 := (d.issueTicket k q c pay serial).notices.sn1 } ∧
      (d.issueTicket k q c pay serial).SalesLawful := by
  obtain ⟨w, hw⟩ : ∃ w, w = d.setJournal (d.journal.append serial d.today d.now (.sale (q.saleFields pay))) := ⟨_, rfl⟩
  obtain ⟨v, hv⟩ : ∃ v, v = (d.appendRecord serial (.sale (q.saleFields pay))).addTicket (requestTrain q c) q.count := ⟨_, rfl⟩
  have hvw : v.sale = w.evalSales.sale ∧ v.notices = w.evalSales.notices := by
    rw [hv, hw]
    simp only [Device.addTicket_frame, Device.appendRecord, Device.markJournal_frame, and_self]
  have hticket : d.issueTicket k q c pay serial = (v.closeQuote k).setLastSale (d.lastSaleOf q c pay serial) := by rw [hv]; rfl
  have hstate : (d.issueTicket k q c pay serial).sale.state = w.salesStateNow := by
    rw [hticket, ← Device.evalSales_sale_state, ← hvw.1]
    cases k <;> rfl
  refine ⟨?_, ?_, hstate.trans ?_⟩
  · have hsale : v.sale = { d.sale with state := v.sale.state } := by
      rw [hvw.1, w.evalSales_sale, hw]
      rfl
    have hclosed := congrArg (fun u : SaleUnit => { u.setSlot k none with lastSale := some (d.lastSaleOf q c pay serial) }) hsale
    rw [hticket]
    cases k <;> exact hclosed
  · have hnotices := w.evalSales_notices
    rw [hticket]
    show v.notices = { d.notices with sn1 := v.notices.sn1 }
    rw [hvw.2, hw] at *
    exact hnotices
  · refine Device.salesStateNow_congr ?_ ?_ ?_ ?_ ?_ <;> rw [hw]
    · simp only [Device.issueTicket_frame]; rfl
    · simp only [Device.issueTicket_frame]; rfl
    · simp only [Device.issueTicket_frame]; rfl
    · rw [issueTicket_journal]; rfl
    · simp only [Device.issueTicket_frame]; rfl

/-- A ticket for no train of a REQUEST call leaves the entries, the buttons and the line, and of the board all but the pages. -/
theorem Device.issueTicket_plain {d : Device} {q : Quote} {c : Option CallRec} (hc : requestTrain q c = none) (k : QuoteSlot)
    (pay : PayKind) (serial : Nat) :
    (d.issueTicket k q c pay serial).table = d.table ∧ (d.issueTicket k q c pay serial).sru = d.sru ∧
      (d.issueTicket k q c pay serial).line = d.line ∧
      (d.issueTicket k q c pay serial).board = { d.board with screens := (d.issueTicket k q c pay serial).board.screens } := by
  have hticket : d.issueTicket k q c pay serial =
      ((d.appendRecord serial (.sale (q.saleFields pay))).closeQuote k).setLastSale (d.lastSaleOf q c pay serial) := by
    unfold Device.issueTicket
    rw [hc]
    rfl
  obtain ⟨-, -, -, hline, htable, hsru, -⟩ := d.appendRecord_frame serial (.sale (q.saleFields pay))
  rw [hticket]
  exact ⟨htable, hsru, hline, (d.appendRecord_pages serial (.sale (q.saleFields pay))).1⟩

/-- A ticket for the train served, of a REQUEST call: its request takes the passengers with a sale watch, and the pages follow where
NONE becomes PENDING in a train that a list holds (R93, R94, R129, R162). -/
theorem Device.Serves.issueTicket {d u : Device} {n : Nat} {e : Entry} (h : d.Serves n e u) {q : Quote} {c : Option CallRec}
    (hc : requestTrain q c = some n) (k : QuoteSlot) (pay : PayKind) (serial : Nat) :
    ∃ x : Entry, x.core = e.core ∧ (u.issueTicket k q c pay serial).entry? n = some (x.requested q.count true) ∧
      d.OthersStay (u.issueTicket k q c pay serial) n ∧
      (u.issueTicket k q c pay serial).board = { u.board with screens := (u.issueTicket k q c pay serial).board.screens } ∧
      (d.BoardSound → e.stop = .none → u.board.Holds n →
        d.PageStep (u.issueTicket k q c pay serial) ∧ (u.issueTicket k q c pay serial).Composed) := by
  obtain ⟨v, hv⟩ : ∃ v, v = u.appendRecord serial (.sale (q.saleFields pay)) := ⟨_, rfl⟩
  have hticket : u.issueTicket k q c pay serial =
      ((v.addToRequest n q.count true).closeQuote k).setLastSale (u.lastSaleOf q c pay serial) := by
    rw [hv]
    unfold Device.issueTicket
    rw [hc]
    rfl
  obtain ⟨hboard, hstep⟩ := u.appendRecord_pages serial (.sale (q.saleFields pay))
  rw [← hv] at hboard hstep
  have htable : v.table = u.table := by rw [hv]; simp only [Device.appendRecord_frame]
  obtain ⟨x, -, hcore, hentry, hothers, hlists, hpages⟩ := h.requested htable hboard hstep q.count true
  have hkept : (v.addToRequest n q.count true).PagesKept
      (((v.addToRequest n q.count true).closeQuote k).setLastSale (u.lastSaleOf q c pay serial)) :=
    .of_quiet rfl rfl rfl rfl rfl rfl (.of_ports rfl)
  rw [hticket]
  refine ⟨x, hcore, hentry, hothers, hlists, fun hsound hs hh => ?_⟩
  obtain ⟨hsteps, hcomposed⟩ := hpages hsound hs hh
  exact ⟨hsteps.trans hkept.step, hkept.composed hcomposed⟩

/-- An ISSUE that passes every check, up to the call found (R127 to R129). -/
theorem runIssue_passes {ps : List Byte} {d u : Device} {k : QuoteSlot} {q : Quote} {call : Option CallRec} {pay : PayKind} {serial : Nat}
    (hnumber : 1 ≤ byteAt ps 0) (hpay : byteAt ps 4 = pay.code) (hamount : u24At ps 1 = q.price) (hprice : q.price ≤ 999990)
    (hopen : d.sale.openQuote? (byteAt ps 0) = some (k, q)) (hchecks : d.issueChecks q q.price = none)
    (hcall : d.issueCall q = (.ok call, u)) (hroom : d.journal.records.length + 2 ≤ 8 * d.journal.partition)
    (hserial : d.journal.nextSerial = some serial) (hset : serial ≤ 16777214) :
    runIssue ps d = saleReply (.ok (u.ticket q call serial)) (u.issueTicket k q call pay serial) := by
  have hjournal : u.journal = d.journal := by
    have hframe := (Device.issueCall_frame d q).2.2.2.2.2.1
    rwa [hcall] at hframe
  have hkind : PayKind.ofCode (byteAt ps 4) = some pay := by rw [hpay]; cases pay <;> rfl
  have htakes : u.journal.takesSale = true := by
    unfold Journal.takesSale Journal.serialState Journal.free
    rw [hjournal, hserial]
    dsimp only
    rw [if_pos hset, Bool.and_eq_true, decide_eq_true_iff]
    exact ⟨rfl, by omega⟩
  unfold runIssue
  rw [hkind]
  dsimp only
  rw [if_neg (by omega), hopen, hamount]
  dsimp only
  unfold issueQuote
  rw [hchecks]
  dsimp only
  rw [hcall]
  dsimp only
  rw [htakes, hjournal, hserial]

/-! ## The response in hand (R188, R191) -/

theorem Device.FlagsKept.hold (d : Device) (p : PortId) (r : Response) : d.FlagsKept (d.hold p r) := fun f hf => by
  cases p <;> cases f <;> exact hf

/-- The notify sets aside, a response in hand of the Sale port is written over whatever the port had in hand. -/
theorem Device.hold_quiet_sale {d e : Device} (n : Nat) (r : Response)
    (h : e.ports.quiet = (d.clockOut .sale (List.replicate n 0)).ports.quiet) :
    (e.hold .sale r).ports.quiet = (d.answeredPorts .sale n r).quiet := by
  simp only [Ports.quiet, Device.clockOut, Device.setPort, Device.hold, Device.port, Ports.set, Device.answeredPorts,
    Ports.mk.injEq, Port.mk.injEq] at h ⊢
  tauto

/-- The ports answered are those of the part before the expiry test, but for the notify sets (R125, R188). -/
theorem Device.answeredPorts_closeExpired (d : Device) (n : Nat) (r : Response) :
    (d.closeExpired.answeredPorts .sale n r).quiet = (d.answeredPorts .sale n r).quiet := by
  have h : d.closeExpired.ports.quiet = d.ports.quiet := by simp only [Device.closeExpired_frame]
  simp only [Ports.quiet, Device.port, Ports.set, Device.answeredPorts, Ports.mk.injEq, Port.mk.injEq] at h ⊢
  tauto

/-- A part that differs from another in what an ISSUE may write. -/
theorem Device.eq_of_issue {d e : Device} (hphase : e.phase = d.phase) (hclock : e.clock = d.clock) (htt : e.tt = d.tt)
    (hfares : e.fares = d.fares) (hhalt : e.halt = d.halt) (hnotices : e.notices = { d.notices with sn1 := e.notices.sn1 }) :
    e = { d with sale := e.sale, journal := e.journal, notices := { d.notices with sn1 := e.notices.sn1 }, board := e.board
                 ports := e.ports, table := e.table, sru := e.sru, line := e.line, cues := e.cues, co := e.co, sched := e.sched } := by
  rw [← hnotices, ← hphase, ← hclock, ← htt, ← hfares, ← hhalt]

/-- The call of an ISSUE: none for an open ticket, and the train of a REQUEST call is served (R128). -/
theorem Device.issueCall_serves {d : Device} {q : Quote} {call : Option CallRec}
    (h : q.train = none ∧ call = none ∨ ∃ t e c, q.train = some t ∧ call = some c ∧ d.departure t = .found e c ∧ c.kind ≠ .pass ∧
      (c.kind = .request → (∀ y, e = some y → belowCutoff y.lastIndex c = true ∨ y.stop = .confirmed) ∧
        (d.line.state = .up ∨ ∃ y, e = some y ∧ y.stop = .confirmed) ∧
        (e = none → d.table.entries.length < 24 ∨ ∃ v, d.MakesWay t v))) :
    ∃ u, d.issueCall q = (.ok call, u) ∧ (call.any (fun c => c.kind == .request) = false → u = d) ∧
      ∀ n, call.any (fun c => c.kind == .request) = true → q.train = some n → ∃ x, d.Serves n x u ∧
        x.waiting = ((d.entry? n).map Entry.waiting).getD 0 ∧ x.stop = ((d.entry? n).map Entry.stop).getD .none := by
  rcases h with ⟨hq, rfl⟩ | ⟨t, e, c, hq, rfl, hfound, hpass, hrequest⟩
  · refine ⟨d, ?_, fun _ => rfl, fun _ h => absurd h (by simp)⟩
    unfold Device.issueCall
    rw [hq]
  · have hpasses := Device.issueDeparture_passes hfound hpass fun hk => ⟨(hrequest hk).1, (hrequest hk).2.1⟩
    obtain ⟨u, hcall, hplain, hserves⟩ := Device.issueCall_train hq hfound hpasses fun hk => (hrequest hk).2.2
    refine ⟨u, hcall, fun hno => hplain fun hk => ?_, fun n hyes hn => ?_⟩
    · rw [Option.any_some, hk] at hno
      cases hno
    · obtain rfl := Option.some_inj.1 (hq.symm.trans hn)
      exact hserves (beq_iff_eq.1 hyes)

/-- A ticket's bytes (R130). -/
theorem Device.ticket_eq (d : Device) (q : Quote) (call : Option CallRec) (serial : Nat) :
    d.ticket q call serial = be24 serial ++ be16 d.clock.date.toNat ++ be24 d.clock.second ++ be16 d.halt.fareCode ++ be16 q.destCode
      ++ [BitVec.ofNat 8 q.type.code, BitVec.ofNat 8 q.cls.code, BitVec.ofNat 8 q.count] ++ be24 q.price
      ++ be16 (if q.type = .returnT then d.clock.date + BitVec.ofNat 16
          (((d.fares.active.dests.find? (fun y => y.code == q.destCode)).map FareDest.validity).getD 0) else d.clock.date).toNat
      ++ be16 (q.train.getD 0) ++ be24? (call.map CallRec.schedDep) ++ [q.generation] ++ beText q.destName := by
  have hvalid : d.validUntil q = if q.type = .returnT then d.clock.date + BitVec.ofNat 16
      (((d.fares.active.dests.find? (fun y => y.code == q.destCode)).map FareDest.validity).getD 0) else d.clock.date := by
    unfold Device.validUntil
    cases q.type <;> rfl
  unfold Device.ticket
  rw [hvalid]
  simp [be8, be16Or0, Device.today, Device.now]

/-- Settles O27: the call is found, its train entered where need be, and the ticket sold. -/
theorem issueSellsTheTicket : Obligations.IssueSellsTheTicket := by
  unfold Obligations.IssueSellsTheTicket
  intro ps s d q call pay serial htakes hlen hd hnumber hpay hamount hprice hq hslot hg hstate hroom hserial hset hcall
  obtain ⟨D, hD⟩ : ∃ D, D = d.clockOut .sale (List.replicate 8 0) := ⟨_, rfl⟩
  obtain ⟨k, hopen, hclosed⟩ := SaleUnit.openQuote?_eq hq hslot
  obtain ⟨u, hcalled, hplain, hserves⟩ := Device.issueCall_serves (d := D) (q := q) (call := call) (by rw [hD]; exact hcall)
  have hrun := runIssue_passes (d := D) hnumber hpay hamount hprice (by rw [hD]; exact hopen)
    (Device.issueChecks_none (by rw [hD]; exact hg) (by rw [hD]; exact hstate) (by rw [hD]; exact hroom)) hcalled
    (by rw [hD]; exact hroom) (by rw [hD]; exact hserial) hset
  obtain ⟨T, hT⟩ : ∃ T, T = u.issueTicket k q call pay serial := ⟨_, rfl⟩
  obtain ⟨hsale, hnotices, hlawful⟩ := u.issueTicket_sale k q call pay serial
  obtain ⟨hphase, hclock, htt, hfares, hcues, hco, hhalt, -, -, -, -, hports, -, -⟩ := u.issueTicket_frame k q call pay serial
  have hjournal := issueTicket_journal u k q call pay serial
  rw [← hT] at hrun hsale hnotices hlawful hphase hclock htt hfares hcues hco hhalt hports hjournal
  obtain ⟨huphase, huclock, hutt, hufares, husale, hujournal, hunotices, huhalt, -, huports⟩ : u.phase = d.phase ∧ u.clock = d.clock ∧
      u.tt = d.tt ∧ u.fares = d.fares ∧ u.sale = d.sale ∧ u.journal = d.journal ∧ u.notices = d.notices ∧ u.halt = d.halt ∧
      u.board.groups = d.board.groups ∧ u.ports.quiet = (d.clockOut .sale (List.replicate 8 0)).ports.quiet := by
    have hframe := D.issueCall_frame q
    rw [hcalled, hD] at hframe
    exact hframe
  have hcommand := Device.commanded_of_takes (c := .issue) (ps := ps) htakes (by omega) rfl (by simp [Cmd.lengthOk, hlen]) (runIssue ps)
  rw [show s.dev.atCommand .sale = d from hd.symm, hlen, ← hD, hrun] at hcommand
  have hrequest : call.any (fun c => c.kind == .request) = true → requestTrain q call = q.train := fun h => if_pos h
  refine ⟨{ s with dev := T.hold .sale ((saleReply (.ok (u.ticket q call serial)) T).2.response .issue) },
    d.journal.nextRecord serial d.clock.date d.clock.second (.sale { q.saleFields pay with generation := d.fares.generation }),
    congrArg (fun e : Device => Host.Outcome.next ({ s with dev := e } : State)) hcommand, ⟨rfl, ?_⟩, rfl, hjournal.trans ?_,
    hsale.trans ?_, hlawful,
    (Device.eq_of_issue (hphase.trans huphase) (hclock.trans huclock) (htt.trans hutt) (hfares.trans hufares) (hhalt.trans huhalt) ?_),
    fun hno => ?_, fun n hyes hn => ?_⟩
  · rw [← Device.answeredPorts_closeExpired, ← hd]
    refine (Device.hold_quiet_sale 8 _ (hports.trans huports)).trans ?_
    rw [Device.ticket_eq, huclock, huhalt, hufares]
    rfl
  · unfold Device.today Device.now
    rw [hujournal, huclock, ← hg]
    rfl
  · unfold Device.lastSaleOf Device.today Device.now
    rw [husale, hclosed, huclock]
    rfl
  · rw [hunotices] at hnotices
    exact hnotices
  · have hud := hplain hno
    have hnone : requestTrain q call = none := if_neg (by rw [hno]; nofun)
    obtain ⟨htable, hsru, hline, hboard⟩ := u.issueTicket_plain hnone k pay serial
    rw [← hT, hud, hD] at htable hsru hline hboard
    rw [hud, hD] at hcues hco
    exact ⟨htable, hsru, hline, hcues, hco, hboard⟩
  · obtain ⟨e, hserved, hwaiting, hstop⟩ := hserves n hyes hn
    obtain ⟨x, hcore, hentry, hothers, hboard, hpages⟩ := hserved.issueTicket ((hrequest hyes).trans hn) k pay serial
    rw [← hT] at hentry hothers hboard hpages
    have hxwaiting : x.waiting = e.waiting := Entry.field_of_core hcore Entry.waiting fun _ => rfl
    have hxstop : x.stop = e.stop := Entry.field_of_core hcore Entry.stop fun _ => rfl
    have hmeets := hserved.meets
    rw [hD] at hothers hmeets hwaiting hstop
    refine ⟨hothers, x.requested q.count true, hentry, Bool.or_true _, ?_, ?_, fun hsound => ?_⟩
    · show min 15 (x.waiting + q.count) = _
      rw [hxwaiting, hwaiting]
      rfl
    · show (if x.stop = .none then .pending else x.stop) = _
      rw [hxstop, hstop]
      rfl
    · have hsound' : D.BoardSound := by rw [hD]; exact hsound
      have henters := (hserved.board hsound').1
      rw [hD] at henters
      obtain ⟨u', henters', hu'⟩ := Device.EntersAs.of_parts (d := d) (sru := d.sru) henters
      refine ⟨e, u', hmeets, henters', by rw [hu']; exact hboard, fun hs hh => ?_⟩
      rw [hu'] at hh
      obtain ⟨hstep, hcomposed⟩ := hpages hsound' hs hh
      have hkept : ∀ r, T.PagesKept (T.hold .sale r) := fun r => .of_quiet rfl rfl rfl rfl rfl rfl (.hold _ _ _)
      exact ((hstep.trans (hkept _).step).follow ((hkept _).composed hcomposed)).of_board (by rw [hD]; rfl)

end Sys2Proof.Machine
